-- ==== Sys2Proof/Word.lean ====
section
/-! DEFINITION. The words the part computes with, and the codes its links carry. -/

namespace Sys2Proof

/-- One byte of stacked DRAM. -/
abbrev Byte := BitVec 8

/-- A data word of every link, a coefficient, a slope, a frame number (00_scope, Words and symbols; Units). -/
abbrev Word := BitVec 16

/-- A 32-bit count that wraps (R23, R66, R130, R149, R165, R176). -/
abbrev Count := BitVec 32

/-- A value of the timebase, in 10 ns ticks (R51). -/
abbrev Time := BitVec 32

/-- A sensor link and its sensor: sensor i is always on link i (01_sensor_links). -/
abbrev Link := Fin 8

/-- The codes of a lane (R1): data words, the six control symbols, and whatever is neither. HEAD and
MARK are symbols of the drive ring alone. -/
inductive Code
  | idle
  | openSym
  | closeSym
  | abort
  | head
  | mark
  | data (w : Word)
  | violation
  deriving DecidableEq, Repr

/-- What one check of an ECC word of a burst finds (R64). -/
inductive EccResult
  | passed
  | corrected
  | uncorrectable
  deriving DecidableEq, Repr, Inhabited

end Sys2Proof
end

