-- ==== Sys2Proof/Syntax.lean ====
section
/-! DEFINITION. The commands: one constructor per row of spec/opcode_table.json. The table gives its rows no
bits; an operand here is what the row's rule names beside the row (the link, the code received, the
request's tag and payload words). -/

namespace Sys2Proof

/-- A code that is stray in SYNC (R6, R167): a data word or CLOSE. -/
inductive StrayCode
  | word (w : Word)
  | closeSym
  deriving DecidableEq, Repr

/-- What costs a receiver its line order (R7): ABORT, or a code violation (HEAD and MARK among them, R1). -/
inductive LossCause
  | abort
  | violation
  deriving DecidableEq, Repr

/-- A direction of the CYCLE SYNC input (R59). -/
inductive Edge
  | rising
  | falling
  deriving DecidableEq, Repr

/-- The ring codes that have no row of their own (RING_CODE, R136). -/
inductive OtherCode
  | word (w : Word)
  | openSym
  | closeSym
  | abort
  deriving DecidableEq, Repr

/-- A change of a stored ECC word since it was last read or written: one bit more in error, or a
pattern the code cannot correct (R64). -/
structure BitError where
  word : Fin 64
  severe : Bool
  deriving DecidableEq, Repr

/-- The commands. A request row carries the request's tag and its payload words (R166, R181). -/
inductive Instr
  | hardReset
  | softReset
  | sensorIdleInHunt (link : Link)
  | sensorStrayCode (link : Link) (code : StrayCode)
  | sensorOpen (link : Link)
  | sensorClose (link : Link)
  | sensorLossOfLineOrder (link : Link) (cause : LossCause)
  | copyGrant
  | copyEnd
  | deadlineExpiry
  | paceTick
  | cycleSyncEdge (edge : Edge)
  | burstGrant
  | burstEnd (grantFirst : Bool) (errors : List BitError)
  | filterPassEnd
  | ringHead
  | ringHeadWord (word : Word)
  | ringMark
  | ringIdle
  | ringCode (code : OtherCode)
  | ringCodeViolation
  | controlIdleInHunt
  | controlStrayCode (code : StrayCode)
  | controlOpen
  | controlMessageClose
  | controlLossOfLineOrder (cause : LossCause)
  | messageSent
  | unknownRequest (code : Nat) (tag : Word) (payload : List Word)
  | identify (tag : Word) (payload : List Word)
  | readStatus (tag : Word) (payload : List Word)
  | readCounters (tag : Word) (payload : List Word)
  | clearCounters (tag : Word) (payload : List Word)
  | setNotices (tag : Word) (payload : List Word)
  | reset (tag : Word) (payload : List Word)
  | setSensor (tag : Word) (payload : List Word)
  | readLinkStatus (tag : Word) (payload : List Word)
  | readFrameRecords (tag : Word) (payload : List Word)
  | setTiming (tag : Word) (payload : List Word)
  | setSlice (tag : Word) (payload : List Word)
  | setLoop (tag : Word) (payload : List Word)
  | setTrip (tag : Word) (payload : List Word)
  | writeDirectory (tag : Word) (payload : List Word)
  | setBankShift (tag : Word) (payload : List Word)
  | writeMatrix (tag : Word) (payload : List Word)
  | readMatrix (tag : Word) (payload : List Word)
  | swapBank (tag : Word) (payload : List Word)
  | cancelSwap (tag : Word) (payload : List Word)
  | writeActuators (tag : Word) (payload : List Word)
  | writePairs (tag : Word) (payload : List Word)
  | applyParameters (tag : Word) (payload : List Word)
  | cancelApply (tag : Word) (payload : List Word)
  | presetCommands (tag : Word) (payload : List Word)
  | readActuators (tag : Word) (payload : List Word)
  | ringJoin (tag : Word) (payload : List Word)
  | ringLeave (tag : Word) (payload : List Word)
  | ringTransmit (tag : Word) (payload : List Word)
  | setTelemetry (tag : Word) (payload : List Word)
  | telemetryEnable (tag : Word) (payload : List Word)
  | readTelemetry (tag : Word) (payload : List Word)
  | releaseTelemetry (tag : Word) (payload : List Word)
  | sensorDataWord (link : Link) (word : Word)
  | controlDataWord (word : Word)
  | freshMarkSent
  | hardResetEnd
  deriving DecidableEq, Repr

end Sys2Proof
end

