-- ==== Sys2Proof/Decode.lean ====
section
/-! DEFINITION. The command a word spells by the table's bits. The part is a block, not a processor: no row
of spec/opcode_table.json gives bits, so no word spells a command (log entry 1). The words of a control-link
request are read in Machine/ControlLink.lean, where the link's rules are. -/

namespace Sys2Proof

/-- No row of the table gives bits. -/
def decodeTableWord (_nbits _w : Nat) : Option Instr := none

end Sys2Proof
end

