-- ==== Sys2Proof/Config.lean ====
section
/-! DEFINITION. The free values: what the manual leaves open and a run nevertheless needs. Each is a
constant with no body, so nothing can be proved of its value; the first argument `n` is the state's
count of free values already drawn, so two draws are unrelated. -/

namespace Sys2Proof.Config

/-- The 16-bit word `j` of a burst that is read where nothing was written since the last hard reset:
"returns an undefined value" (R63). Log entry 6. -/
opaque unwrittenWord (n j : Nat) : Word

/-- The ECC result for the unwritten ECC word `i` of a burst that is read: passed, corrected or
uncorrectable, "and which of the three it is may differ from one read to the next" (R63). Log entry 6. -/
opaque unwrittenEcc (n i : Nat) : EccResult

/-- The slope in slot `j` of global block `g` of a slope buffer into which no copy has stored that
block: "block slots hold no defined values until frames are stored into them" (R50). Log entry 7. -/
opaque unstoredSlope (g j : Nat) : Word

/-- How many codes of the message or slice frame being sent have left the part when a reset stops the
sending (R150, R173): the manual gives the sending no step of its own. Log entry 8. -/
opaque codesSent (n : Nat) : Nat

end Sys2Proof.Config
end

