-- ==== Sys2Proof/Machine/Arith.lean ====
section
/-! DEFINITION. The arithmetic the rules name: the CRC of R3, frame numbers, rounding, clamping, counts that
stop or wrap, and fixed tables, read, mapped and written. -/

namespace Sys2Proof.Machine

/-! ### CRC (R3) -/

/-- One bit taken into the CRC register: shift toward the most significant end, then exclusive-or with
1021h if the bit and the old most significant bit differ (R3). -/
def crcBit (r : Word) (b : Bool) : Word :=
  if b != r.msb then (r <<< 1) ^^^ 0x1021 else r <<< 1

/-- One word taken into the CRC register, most significant bit first (R3). -/
def crcWord (r w : Word) : Word :=
  [15, 14, 13, 12, 11, 10, 9, 8, 7, 6, 5, 4, 3, 2, 1, 0].foldl (fun r i => crcBit r (w.getLsbD i)) r

/-- The expected CRC of the words before a packet's CRC word (R3). -/
def crcOf (ws : List Word) : Word := ws.foldl crcWord 0xFFFF

/-! ### Frame numbers (00_scope, Frame numbers) -/

/-- F is after G: (F − G) modulo 65,536 is 1 to 32,767. -/
def frameAfter (f g : Word) : Bool := 1 ≤ (f - g).toNat && (f - g).toNat ≤ 32767

/-- F is before G: (F − G) modulo 65,536 is 32,768 to 65,535. -/
def frameBefore (f g : Word) : Bool := 32768 ≤ (f - g).toNat

/-! ### Rounding and limits (00_scope, Numbers and rounding) -/

/-- n divided by d, rounded to the nearest integer with ties away from zero. -/
def roundDiv (n : Int) (d : Nat) : Int :=
  let q : Nat := (2 * n.natAbs + d) / (2 * d)
  if n < 0 then -(q : Int) else (q : Int)

/-- x replaced by the nearest end of the range lo to hi. -/
def clampInt (lo hi x : Int) : Int :=
  if x < lo then lo else if hi < x then hi else x

/-- n divided by d, rounded toward plus infinity. -/
def ceilDiv (n d : Nat) : Nat := (n + d - 1) / d

/-- A 16-bit count raised by one that stops at 65,535 (R19, R126, R171). -/
def satSucc (w : Word) : Word := if w = 0xFFFF then w else w + 1

/-- A 32-bit count raised by n, wrapping (R23, R130). -/
def addCount (c : Count) (n : Nat) : Count := c + BitVec.ofNat 32 n

/-- A duration of the host's, in microseconds, as timebase ticks (R51). -/
def microseconds (n : Nat) : Time := BitVec.ofNat 32 (100 * n)

/-! ### Fixed tables -/

/-- A table with every entry replaced by `f` of its index and itself. -/
def mapTable {n : Nat} {α β : Type} (f : Nat → α → β) (v : Vector α n) : Vector β n :=
  ⟨⟨v.toList.mapIdx f⟩, by simp⟩

/-- The entry at an index, or `d` where the index lies outside the table. -/
def entryAt {n : Nat} {α : Type} (v : Vector α n) (i : Nat) (d : α) : α := (v.toList[i]?).getD d

/-- The table with the entries from `first` on replaced by `xs` (those that fall inside the table). -/
def writeFrom {n : Nat} {α : Type} (v : Vector α n) (first : Nat) (xs : List α) : Vector α n :=
  mapTable (fun i x => if first ≤ i then (xs[i - first]?).getD x else x) v

end Sys2Proof.Machine
end

