-- ==== Sys2Proof/Machine/State.lean ====
section
/-! DEFINITION. The state of the WRP-16K as plain data, block by block, the reasons a step can stop, and
the machine right after a hard reset. -/

namespace Sys2Proof.Machine

/-- Why a command stops the model. -/
inductive Fault
  /-- Raised by BURST_END when the burst being transferred lies outside the 131,072 pages of stacked
  DRAM (04_matrix_memory_and_banks, The stacked DRAM). No run meets it: every burst is presented from a
  directory entry or region that was checked to lie inside. Safe. -/
  | noSuchBurst
  deriving DecidableEq, Repr

/-- Why a command has no meaning in the model. -/
inductive Refusal
  /-- Raised by `exec` for a row of the table that has no meaning yet. Safe. No arm answers it. -/
  | notModelled (mnemonic : String)
  deriving DecidableEq, Repr

/-! ### Sensor link receivers (R4 to R25) -/

/-- Receiver states (01_sensor_links, Receiver states). The control link has no DISABLED (R167). -/
inductive ReceiverState
  | disabled
  | hunt
  | sync
  | receiving
  deriving DecidableEq, Repr

/-- Packet buffer states (R9, R10). -/
inductive PacketState
  | free
  | filling
  | delivered
  deriving DecidableEq, Repr

/-- Packet buffers 0 and 1 of a link (R10). -/
inductive PacketSlot
  | zero
  | one
  deriving DecidableEq, Repr

/-- A packet buffer: its state and the words in it, at most 261 (R10). -/
structure PacketBuffer where
  state : PacketState
  words : List Word
  deriving DecidableEq, Repr

/-- The running checks of a packet: the word count (R2) and the CRC register (R3), over every word so
far (`crc`) and over every word but the latest (`prior`), with that latest word. -/
structure LineCheck where
  count : Nat
  crc : Word
  prior : Word
  latest : Word
  deriving DecidableEq, Repr

/-- A frame record (01_sensor_links, Frame records). Its three counts stop at 65,535 (R19). -/
structure FrameRecord where
  frame : Word
  good : Word
  crcErrors : Word
  stored : Word
  endSeen : Bool
  duplicate : Bool
  stale : Bool
  noBuffer : Bool
  notStored : Bool
  aborted : Bool
  syncLost : Bool
  deriving DecidableEq, Repr

/-- A current or closing record, with the number of its packets whose outcome has not returned (R20). -/
structure OwedRecord where
  record : FrameRecord
  owed : Nat
  deriving DecidableEq, Repr

/-- The ten counters of a link (R23). -/
structure LinkCounts where
  good : Count
  crc : Count
  framing : Count
  misrouted : Count
  outOfWindow : Count
  lengthErrors : Count
  aborts : Count
  syncLosses : Count
  overruns : Count
  markers : Count
  deriving DecidableEq, Repr

/-- Whether a frame may be used when the sensor's data is incomplete (the sensor map). -/
inductive Role
  | essential
  | optional
  deriving DecidableEq, Repr

/-- One entry of the sensor map (R12). -/
structure MapEntry where
  enabled : Bool
  base : Nat
  blocks : Nat
  slopes : Nat
  role : Role
  deriving DecidableEq, Repr

/-- One sensor link: its receiver, its packet buffers, its records and counters, and its sensor's map
entry. `storing` is the buffer being stored into while RECEIVING; none there means discarding. `order`
lists the DELIVERED buffers, oldest first (R9). -/
structure LinkState where
  receiver : ReceiverState
  storing : Option PacketSlot
  line : LineCheck
  buffer0 : PacketBuffer
  buffer1 : PacketBuffer
  order : List PacketSlot
  current : Option OwedRecord
  closing : List OwedRecord
  queue : List FrameRecord
  overflow : Bool
  counts : LinkCounts
  entry : MapEntry
  deriving DecidableEq, Repr

/-! ### Slope assembly (R27 to R50) -/

/-- The two slope buffers A and B. -/
inductive BufferId
  | a
  | b
  deriving DecidableEq, Repr

/-- Slope buffer states (R27). -/
inductive BufferState
  | free
  | opened
  | closed
  | retiring
  deriving DecidableEq, Repr

/-- Closure causes (the buffer descriptor). -/
inductive ClosureCause
  | complete
  | ended
  | deadline
  | overtaken
  deriving DecidableEq, Repr

/-- Engine relation (the buffer descriptor). -/
inductive EngineRelation
  | none
  | attached
  | done
  deriving DecidableEq, Repr

/-- The outcome of a cycle (the buffer descriptor). -/
inductive CycleOutcome
  | completed
  | skipped
  | abandoned
  deriving DecidableEq, Repr

/-- Skip causes (the buffer descriptor). -/
inductive SkipCause
  | missing
  | memory
  deriving DecidableEq, Repr

/-- Per-sensor status: bit i of `accepted` for block index i (the buffer descriptor, R179). -/
structure SensorStatus where
  accepted : BitVec 16
  endSeen : Bool
  complete : Bool
  deriving DecidableEq, Repr

/-- A buffer descriptor (02_slope_buffers_and_cycle_assembly, The buffer descriptor). -/
structure Descriptor where
  tag : Word
  state : BufferState
  cause : Option ClosureCause
  relation : EngineRelation
  outcome : Option CycleOutcome
  skip : Option SkipCause
  sensors : Vector SensorStatus 8
  ready : List Nat
  markers : Nat
  openedAt : Time
  closedAt : Time
  deriving DecidableEq, Repr

/-- A slope buffer: its descriptor and the block slots that a copy has stored, by rising global block
index, 256 slopes each. -/
structure SlopeBuffer where
  desc : Descriptor
  slots : List (Nat × List Word)
  deriving DecidableEq, Repr

/-- A copy in progress (R31, R32): the granted link, the buffer, and the global block index written. -/
structure Copy where
  link : Link
  buffer : BufferId
  global : Nat
  deriving DecidableEq, Repr

/-- The Slope Assembly Unit. `lastOpened` is R29's note, `rotation` R30's rotation point, `closeOrder` the
order of closure of R46 (oldest first), `heldExpiry` a deadline expiry held during a copy (R32). -/
structure Sau where
  bufA : SlopeBuffer
  bufB : SlopeBuffer
  lastOpened : BufferId
  rotation : Link
  lastClosed : Option Word
  closeOrder : List BufferId
  copy : Option Copy
  heldExpiry : Bool
  deriving DecidableEq, Repr

/-! ### Cycle timing (R51 to R62) -/

/-- Start triggers. -/
inductive Trigger
  | immediate
  | paced
  | external
  deriving DecidableEq, Repr

/-- Compute orders (R60). -/
inductive ComputeOrder
  | batch
  | stream
  deriving DecidableEq, Repr

/-- The Cycle Timing Unit: periods and deadline in microseconds; a running timer holds its expiry point
(R53, R58). `syncLevel` is the level of the CYCLE SYNC input after its last transition. -/
structure Ctu where
  timebase : Time
  trigger : Trigger
  edge : Edge
  deadline : Nat
  order : ComputeOrder
  deadlineAt : Option Time
  paceAt : Option Time
  paceCurrent : Nat
  pacePending : Nat
  syncLevel : Bool
  deriving DecidableEq, Repr

/-! ### Matrix memory (R63 to R83) -/

/-- Matrix bank 0 or 1. -/
inductive BankId
  | zero
  | one
  deriving DecidableEq, Repr

/-- A directory entry (Banks and directories). -/
structure DirEntry where
  present : Bool
  base : Nat
  pages : Nat
  deriving DecidableEq, Repr

/-- A matrix bank: 64 directory entries and the shift. -/
structure Bank where
  directory : Vector DirEntry 64
  shift : Nat
  deriving DecidableEq, Repr

/-- Who presents a burst (R66, R67); the two host requesters share the host channel. -/
inductive Requester
  | engine
  | hostMatrix
  | hostTelemetry
  | telemetry
  deriving DecidableEq, Repr

/-- A burst waiting or being transferred: its requester, its place counted in bursts from the start of the
DRAM, the 256 words it writes (none for a read), the bank, block and row of a matrix row, and whether
the requester has dropped it (R68). For a telemetry write `row` counts the bursts of the slot. -/
structure Burst where
  who : Requester
  place : Nat
  write : Option (List Word)
  bank : BankId
  block : Nat
  row : Nat
  dropped : Bool
  deriving DecidableEq, Repr

/-- The Matrix Memory Controller. `dram` lists the written bytes by rising address; `weak` lists the
written ECC words that hold an error, by rising word number (byte address / 8), with what their check
finds. -/
structure Mmc where
  dram : List Host.Cell
  weak : List (Nat × EccResult)
  bank0 : Bank
  bank1 : Bank
  active : BankId
  swap : Option BankId
  corrected : Count
  uncorrectable : Count
  port : Option Burst
  engineWaits : Option Burst
  recorderWaits : Option Burst
  hostWaits : Option Burst
  deriving DecidableEq, Repr

/-! ### Reconstruction engine (R84 to R99) -/

/-- Engine states. -/
inductive EngineState
  | idle
  | waiting
  | busy
  | delivering
  | draining
  deriving DecidableEq, Repr

/-- The Reconstruction Engine. The row sums are exact integers (R91 bounds them by 2^44, so the 48 bits
hold them). `nextRow` is the row of the current block to present next; `residuals` are those offered
while DELIVERING. -/
structure Rce where
  state : EngineState
  attached : Option BufferId
  bank : Option BankId
  shift : Option Nat
  sums : Vector Int 1024
  attachedAt : Option Time
  block : Option Nat
  nextRow : Nat
  residuals : List Int
  deriving DecidableEq, Repr

/-! ### Temporal filter (R100 to R119) -/

/-- The five parameter fields of an actuator record; gain and limits are signed. -/
structure ActuatorParams where
  enabled : Bool
  gain : Word
  leak : Nat
  lo : Word
  hi : Word
  deriving DecidableEq, Repr

/-- An active actuator record; the accumulator is an exact integer in fine units (R100 bounds it). -/
structure ActiveRecord where
  params : ActuatorParams
  acc : Int
  saturations : Count
  deriving DecidableEq, Repr

/-- A pair of actuators and their maximum difference D (The pair lists). -/
structure ActuatorPair where
  first : Nat
  second : Nat
  maxDiff : Nat
  deriving DecidableEq, Repr

/-- A pair list: 2,048 slots and a count (R102). -/
structure PairList where
  slots : Vector ActuatorPair 2048
  count : Nat
  deriving DecidableEq, Repr

/-- Loop states (07_loop_states_and_protection). -/
inductive LoopState
  | stopped
  | opened
  | closed
  | held
  deriving DecidableEq, Repr

/-- A running filter pass: what it took at its start (R109), with its pass values. -/
structure FilterPass where
  buffer : BufferId
  tag : Word
  bank : BankId
  attachedAt : Time
  loop : LoopState
  residuals : List Int
  values : List Int
  deriving DecidableEq, Repr

/-- The Temporal Filter Unit. -/
structure Tfu where
  active : Vector ActiveRecord 1024
  shadow : Vector ActuatorParams 1024
  activePairs : PairList
  shadowPairs : PairList
  applyPending : Bool
  applyDue : Bool
  applyTag : Word
  pass : Option FilterPass
  deriving DecidableEq, Repr

/-! ### Loop supervisor (R120 to R133) -/

/-- Why the loop was last tripped. -/
inductive TripCause
  | skips
  | saturation
  deriving DecidableEq, Repr

/-- The fifteen cycle counters (R130). -/
structure CycleCounts where
  opened : Count
  completed : Count
  skippedMissing : Count
  skippedMemory : Count
  abandoned : Count
  closedComplete : Count
  closedEnded : Count
  closedDeadline : Count
  closedOvertaken : Count
  lateTicks : Count
  emptyTicks : Count
  residualSaturations : Count
  actuatorSaturations : Count
  pairAdjustments : Count
  absentBlocks : Count
  deriving DecidableEq, Repr

/-- The Loop Supervisor. -/
structure Lsv where
  loop : LoopState
  tripCause : Option TripCause
  tripFrame : Word
  skips : Word
  skipLimit : Nat
  saturationLimit : Nat
  counts : CycleCounts
  stopInProgress : Bool
  deriving DecidableEq, Repr

/-! ### Drive ring port (R134 to R150) -/

/-- Ring states. -/
inductive RingState
  | bypass
  | joining
  | listening
  | onRing
  | sending
  | leaving
  deriving DecidableEq, Repr

/-- Slice settings (R135); `actuators` is A. -/
structure SliceSettings where
  id : Nat
  actuators : Nat
  firstGlobal : Nat
  deriving DecidableEq, Repr

/-- A formed slice (R116, R147): tag, flag (true for HELD), command words and the settings it was formed
with. -/
structure Slice where
  tag : Word
  held : Bool
  words : List Word
  settings : SliceSettings
  deriving DecidableEq, Repr

/-- The six ring counters (R149). -/
structure RingCounts where
  sent : Count
  stale : Count
  overruns : Count
  collisions : Count
  violations : Count
  badHeads : Count
  deriving DecidableEq, Repr

/-- The Drive Ring Port. `leaveMark`: a MARK has been received in LEAVING (R144). In SENDING, `unsent`
holds the codes that go before the fresh MARK, `markSent` whether that MARK has been sent (R141), and
`resetEnding` whether a soft reset is ending the send (R150). -/
structure Drp where
  settings : SliceSettings
  state : RingState
  markPassed : Bool
  headSeen : Bool
  leaveRequested : Bool
  leaveMark : Bool
  train : Option Word
  headOpen : Bool
  holding : Option Code
  transmit : Bool
  queue : List Slice
  unsent : List Code
  markSent : Bool
  resetEnding : Bool
  counts : RingCounts
  deriving DecidableEq, Repr

/-! ### Telemetry recorder (R151 to R165) -/

/-- A set of sections (R151, R179). -/
structure Sections where
  slopes : Bool
  residuals : Bool
  commands : Bool
  deriving DecidableEq, Repr

/-- Telemetry modes. -/
inductive TelemetryMode
  | ring
  | queue
  deriving DecidableEq, Repr

/-- The settings of an accepted SET_TELEMETRY (R151). -/
structure TelemetryConfig where
  base : Nat
  pages : Nat
  sections : Sections
  decimation : Nat
  mode : TelemetryMode
  threshold : Nat
  deriving DecidableEq, Repr

/-- The store geometry (R153): slot size in bursts, capacity, A, and per sensor its block count (0 where
the sensor was not enabled). -/
structure Geometry where
  slotSize : Nat
  capacity : Nat
  actuators : Nat
  blocks : List Nat
  deriving DecidableEq, Repr

/-- An unread record: its slot, its tag, and the sections it carries (header words 22 and 23, R182). -/
structure UnreadRecord where
  slot : Nat
  tag : Word
  sections : Sections
  deriving DecidableEq, Repr

/-- The record in writing (R158, R159): slot, tag, header words, sections carried, the buffer its slopes
come from, whether it still holds that buffer, the staged residuals and command words, and the burst of
the slot to present next. -/
structure Writing where
  slot : Nat
  tag : Word
  header : List Word
  sections : Sections
  buffer : BufferId
  holds : Bool
  residuals : List Int
  commands : List Word
  next : Nat
  deriving DecidableEq, Repr

/-- The five telemetry counts (R165). -/
structure TelemetryCounts where
  written : Count
  late : Count
  overwritten : Count
  full : Count
  cut : Count
  deriving DecidableEq, Repr

/-- The Telemetry Recorder. `config` is none until a SET_TELEMETRY has been accepted (configured false);
`nextSlot` is the slot after the newest record's; `underRead` names the record under read by its slot. -/
structure Tmr where
  config : Option TelemetryConfig
  enabled : Bool
  frozen : Bool
  geometry : Option Geometry
  decimated : Nat
  sequence : Count
  unread : List UnreadRecord
  nextSlot : Nat
  writing : Option Writing
  underRead : Option Nat
  counts : TelemetryCounts
  deriving DecidableEq, Repr

/-! ### Control link port (R166 to R178) -/

/-- Result codes, in the order of the introduction's table. -/
inductive Result
  | ok
  | accepted
  | queueFull
  | badRequest
  | invalid
  | wrongState
  | writeProtected
  | pending
  | notPresent
  | length
  | overlap
  | memoryError
  | empty
  deriving DecidableEq, Repr

/-- The nine notice kinds, in the order of the introduction. -/
inductive NoticeKind
  | cycleSkipped
  | loopTripped
  | swapDone
  | paramsApplied
  | memoryError
  | linkState
  | ringState
  | telemetryLevel
  | telemetryFrozen
  deriving DecidableEq, Repr

/-- At which event an apply was made, with the tag its notice carries (R104). -/
inductive ApplyEvent
  | attach (tag : Word)
  | passEnd (tag : Word)
  | stop
  deriving DecidableEq, Repr

/-- What a notice says; its form gives its kind. `swapDone` with a tag is the event ATTACH, without one
STOP (R80, R81); `linkState` without a cause is an entry to SYNC (R24); `ringState` is JOINED or LEFT
(R146). -/
inductive NoticePayload
  | cycleSkipped (tag : Word) (cause : SkipCause) (skips : Word)
  | loopTripped (cause : TripCause) (frame : Word) (value limit : Nat)
  | swapDone (active : BankId) (attachTag : Option Word)
  | paramsApplied (event : ApplyEvent)
  | memoryError (who : Requester) (place : Nat) (bank : BankId) (block row : Nat)
  | linkState (link : Link) (lost : Option LossCause)
  | ringState (sliceId : Nat) (joined : Bool)
  | telemetryLevel (unread capacity : Nat)
  | telemetryFrozen (cause : TripCause) (frame : Word) (unread : Nat)
  deriving DecidableEq, Repr

/-- An entry of the notice list (R171). -/
structure Notice where
  payload : NoticePayload
  count : Word
  deriving DecidableEq, Repr

/-- A good request (R166). -/
structure Request where
  code : Nat
  tag : Word
  payload : List Word
  deriving DecidableEq, Repr

/-- A reply (R166). -/
structure Reply where
  code : Nat
  tag : Word
  result : Result
  payload : List Word
  deriving DecidableEq, Repr

/-- An entry of the reply queue: the pending entry of the request in execution, or a complete reply
(R170). -/
inductive ReplyEntry
  | pending
  | ready (reply : Reply)
  deriving DecidableEq, Repr

/-- What the bursts of a request are for. -/
inductive TransferKind
  | writeMatrix
  | readMatrix
  | readTelemetry (skip count : Nat)
  deriving DecidableEq, Repr

/-- What the request in execution is waiting for: nothing (it is being carried out now), the engine's
report of IDLE (R123, with the loop state found), the end of the filter pass (R117), the sending of its
own reply (R177), or bursts: those not yet presented, how many have not ended, and the words read. -/
inductive Job
  | now
  | engine (found : LoopState)
  | pass (first : Nat) (values : List Word)
  | reset
  | transfer (todo : List Burst) (left : Nat) (got : List Word) (kind : TransferKind)
  deriving DecidableEq, Repr

/-- The request in execution (R169). -/
structure InExecution where
  request : Request
  job : Job
  deriving DecidableEq, Repr

/-- A message on the transmit lane (R173). -/
inductive Sending
  | reply (r : Reply)
  | notice (n : Notice)
  deriving DecidableEq, Repr

/-- Which kind of reset came last (R174). -/
inductive ResetKind
  | hard
  | soft
  deriving DecidableEq, Repr

/-- The Control Link Port. -/
structure Clp where
  receiver : ReceiverState
  line : LineCheck
  buffer : List Word
  requests : List Request
  inExec : Option InExecution
  replies : List ReplyEntry
  notices : List Notice
  mask : BitVec 9
  sending : Option Sending
  resetInHand : Bool
  receiveErrors : Count
  syncLosses : Count
  queueFull : Count
  dropped : Count
  lastReset : ResetKind
  resetPoint : Time
  deriving DecidableEq, Repr

/-! ### The whole -/

/-- The machine: the commands waiting, whether the RESET pin is held low, the ten blocks, the codes that
have gone out on ring-out and on the control link's transmit lane (IDLE between messages left out), and
the count of free values drawn. -/
structure State where
  pending : List Instr
  inReset : Bool
  links : Vector LinkState 8
  sau : Sau
  ctu : Ctu
  mmc : Mmc
  rce : Rce
  tfu : Tfu
  lsv : Lsv
  drp : Drp
  tmr : Tmr
  clp : Clp
  ringOut : List Code
  controlOut : List Code
  drawn : Nat
  deriving DecidableEq, Repr

/-! ### After a hard reset -/

/-- The line checks as they stand at OPEN (R3). -/
def LineCheck.start : LineCheck := ⟨0, 0xFFFF, 0xFFFF, 0⟩

/-- A packet buffer after a reset (R9). -/
def PacketBuffer.empty : PacketBuffer := ⟨.free, []⟩

/-- All ten counters at 0 (R23). -/
def LinkCounts.zero : LinkCounts := ⟨0, 0, 0, 0, 0, 0, 0, 0, 0, 0⟩

/-- A map entry after a hard reset (R12). -/
def MapEntry.reset : MapEntry := ⟨false, 0, 1, 256, .optional⟩

/-- A link after a hard reset (R4, R9, R12, R21, R23, R26). -/
def LinkState.reset : LinkState :=
  { receiver := .disabled, storing := none, line := .start, buffer0 := .empty, buffer1 := .empty,
    order := [], current := none, closing := [], queue := [], overflow := false, counts := .zero,
    entry := .reset }

/-- A sensor's status when a buffer opens (R28, R38). -/
def SensorStatus.clear : SensorStatus := ⟨0, false, false⟩

/-- A descriptor of R28 around the tag and timestamps given. -/
def Descriptor.freed (tag : Word) (openedAt closedAt : Time) : Descriptor :=
  { tag := tag, state := .free, cause := none, relation := .none, outcome := none, skip := none,
    sensors := Vector.replicate 8 .clear, ready := [], markers := 0, openedAt := openedAt,
    closedAt := closedAt }

/-- A slope buffer after a hard reset (R28, R50). -/
def SlopeBuffer.reset : SlopeBuffer := ⟨.freed 0 0 0, []⟩

/-- The SAU after a hard reset (R29, R30, R47, R50). -/
def Sau.reset : Sau :=
  { bufA := .reset, bufB := .reset, lastOpened := .b, rotation := 7, lastClosed := none, closeOrder := [],
    copy := none, heldExpiry := false }

/-- The CTU when a hard reset ends (R62). -/
def Ctu.reset : Ctu :=
  { timebase := 0, trigger := .immediate, edge := .rising, deadline := 2000, order := .batch,
    deadlineAt := none, paceAt := none, paceCurrent := 1000, pacePending := 1000, syncLevel := false }

/-- An absent directory entry (R72, R83). -/
def DirEntry.absent : DirEntry := ⟨false, 0, 0⟩

/-- A bank after a hard reset (R83). -/
def Bank.reset : Bank := ⟨Vector.replicate 64 .absent, 14⟩

/-- The MMC after a hard reset (R83): no word of the DRAM is written (R63). -/
def Mmc.reset : Mmc :=
  { dram := [], weak := [], bank0 := .reset, bank1 := .reset, active := .zero, swap := none, corrected := 0,
    uncorrectable := 0, port := none, engineWaits := none, recorderWaits := none, hostWaits := none }

/-- The engine after either reset (R84). -/
def Rce.reset : Rce :=
  { state := .idle, attached := none, bank := none, shift := none, sums := Vector.replicate 1024 0,
    attachedAt := none, block := none, nextRow := 0, residuals := [] }

/-- Actuator parameters after a hard reset (R119). -/
def ActuatorParams.reset : ActuatorParams := ⟨false, 0, 65536, 0, 0⟩

/-- An active record after a hard reset (R119). -/
def ActiveRecord.reset : ActiveRecord := ⟨.reset, 0, 0⟩

/-- A pair list after a hard reset (R102). -/
def PairList.reset : PairList := ⟨Vector.replicate 2048 ⟨0, 1, 65535⟩, 0⟩

/-- The TFU after a hard reset (R119). -/
def Tfu.reset : Tfu :=
  { active := Vector.replicate 1024 .reset, shadow := Vector.replicate 1024 .reset, activePairs := .reset,
    shadowPairs := .reset, applyPending := false, applyDue := false, applyTag := 0, pass := none }

/-- The fifteen cycle counters at 0 (R130). -/
def CycleCounts.zero : CycleCounts := ⟨0, 0, 0, 0, 0, 0, 0, 0, 0, 0, 0, 0, 0, 0, 0⟩

/-- The supervisor after a hard reset (R133). -/
def Lsv.reset : Lsv :=
  { loop := .stopped, tripCause := none, tripFrame := 0, skips := 0, skipLimit := 0, saturationLimit := 0,
    counts := .zero, stopInProgress := false }

/-- The six ring counters at 0 (R149). -/
def RingCounts.zero : RingCounts := ⟨0, 0, 0, 0, 0, 0⟩

/-- The ring port after a hard reset (R135, R150). -/
def Drp.reset : Drp :=
  { settings := ⟨0, 1, 0⟩, state := .bypass, markPassed := false, headSeen := false,
    leaveRequested := false, leaveMark := false, train := none, headOpen := false, holding := none,
    transmit := false, queue := [], unsent := [], markSent := false, resetEnding := false,
    counts := .zero }

/-- The five telemetry counts at 0 (R165). -/
def TelemetryCounts.zero : TelemetryCounts := ⟨0, 0, 0, 0, 0⟩

/-- The recorder after a hard reset (R165). -/
def Tmr.reset : Tmr :=
  { config := none, enabled := false, frozen := false, geometry := none, decimated := 0, sequence := 0,
    unread := [], nextSlot := 0, writing := none, underRead := none, counts := .zero }

/-- The CLP after a hard reset (R178): all nine kinds in the mask (R172). -/
def Clp.reset : Clp :=
  { receiver := .hunt, line := .start, buffer := [], requests := [], inExec := none, replies := [],
    notices := [], mask := 0x1FF, sending := none, resetInHand := false, receiveErrors := 0,
    syncLosses := 0, queueFull := 0, dropped := 0, lastReset := .hard, resetPoint := 0 }

/-- The machine right after a hard reset has ended: every block at its hard-reset values, and the one
ABORT of R173 sent on the control link. -/
def State.reset : State :=
  { pending := [], inReset := false, links := Vector.replicate 8 .reset, sau := .reset, ctu := .reset,
    mmc := .reset, rce := .reset, tfu := .reset, lsv := .reset, drp := .reset, tmr := .reset,
    clp := .reset, ringOut := [], controlOut := [.abort], drawn := 0 }

end Sys2Proof.Machine
end

