-- ==== Sys2Proof/Machine/Operands.lean ====
section
/-! DEFINITION. How fields stand in 16-bit words (R179): the words of replies, notices and headers, and the
fields of request payloads. -/

namespace Sys2Proof.Machine

/-! ### Encoding (R179) -/

/-- A value of up to 16 bits: one word. -/
def word1 (n : Nat) : List Word := [BitVec.ofNat 16 n]

/-- A value that needs two words, the more significant first. -/
def word2 (n : Nat) : List Word := [BitVec.ofNat 16 (n / 65536), BitVec.ofNat 16 n]

/-- A signed value in two words, two's complement, the more significant first. -/
def signed2 (x : Int) : List Word := word2 (BitVec.ofInt 32 x).toNat

/-- A flag: 0 or 1. -/
def flagWord (b : Bool) : List Word := [if b then 1 else 0]

/-- A numeric value of one word that may be none: a flag word, then the value or 0. -/
def optWord (o : Option Nat) : List Word :=
  match o with
  | some n => 1 :: word1 n
  | none => [0, 0]

/-- A list of variable length: the number of its items, then the items. -/
def listWords (items : List (List Word)) : List Word := word1 items.length ++ items.flatten

/-! ### Enumerations, numbered from 0 in the order the owning rule lists them (R179) -/

def ReceiverState.number : ReceiverState → Nat
  | .disabled => 0 | .hunt => 1 | .sync => 2 | .receiving => 3

def PacketState.number : PacketState → Nat
  | .free => 0 | .filling => 1 | .delivered => 2

def Role.number : Role → Nat
  | .essential => 0 | .optional => 1

def BufferId.number : BufferId → Nat
  | .a => 0 | .b => 1

def BufferState.number : BufferState → Nat
  | .free => 0 | .opened => 1 | .closed => 2 | .retiring => 3

/-- Closure causes; none is 0 (the buffer descriptor, R182). -/
def ClosureCause.number : ClosureCause → Nat
  | .complete => 1 | .ended => 2 | .deadline => 3 | .overtaken => 4

def EngineRelation.number : EngineRelation → Nat
  | .none => 0 | .attached => 1 | .done => 2

/-- Outcomes; none is 0 (R179). -/
def CycleOutcome.number : CycleOutcome → Nat
  | .completed => 1 | .skipped => 2 | .abandoned => 3

/-- Skip causes; none is 0 (R182). -/
def SkipCause.number : SkipCause → Nat
  | .missing => 1 | .memory => 2

def Trigger.number : Trigger → Nat
  | .immediate => 0 | .paced => 1 | .external => 2

def Trigger.ofNumber : Nat → Option Trigger
  | 0 => some .immediate | 1 => some .paced | 2 => some .external | _ => none

def edgeNumber : Edge → Nat
  | .rising => 0 | .falling => 1

def edgeOfNumber : Nat → Option Edge
  | 0 => some .rising | 1 => some .falling | _ => none

def ComputeOrder.number : ComputeOrder → Nat
  | .batch => 0 | .stream => 1

def ComputeOrder.ofNumber : Nat → Option ComputeOrder
  | 0 => some .batch | 1 => some .stream | _ => none

def BankId.number : BankId → Nat
  | .zero => 0 | .one => 1

def BankId.ofNumber : Nat → Option BankId
  | 0 => some .zero | 1 => some .one | _ => none

/-- Requesters in the order of R66. A telemetry write is never read, so it never stands in a notice. -/
def Requester.number : Requester → Nat
  | .engine => 0 | .hostMatrix => 1 | .hostTelemetry => 2 | .telemetry => 3

def EngineState.number : EngineState → Nat
  | .idle => 0 | .waiting => 1 | .busy => 2 | .delivering => 3 | .draining => 4

def LoopState.number : LoopState → Nat
  | .stopped => 0 | .opened => 1 | .closed => 2 | .held => 3

def LoopState.ofNumber : Nat → Option LoopState
  | 0 => some .stopped | 1 => some .opened | 2 => some .closed | 3 => some .held | _ => none

/-- Trip causes; none is 0 (the supervisor's table). -/
def TripCause.number : TripCause → Nat
  | .skips => 1 | .saturation => 2

def RingState.number : RingState → Nat
  | .bypass => 0 | .joining => 1 | .listening => 2 | .onRing => 3 | .sending => 4 | .leaving => 5

def TelemetryMode.number : TelemetryMode → Nat
  | .ring => 0 | .queue => 1

def TelemetryMode.ofNumber : Nat → Option TelemetryMode
  | 0 => some .ring | 1 => some .queue | _ => none

def Result.number : Result → Nat
  | .ok => 0 | .accepted => 1 | .queueFull => 2 | .badRequest => 3 | .invalid => 4 | .wrongState => 5
  | .writeProtected => 6 | .pending => 7 | .notPresent => 8 | .length => 9 | .overlap => 10
  | .memoryError => 11 | .empty => 12

def NoticeKind.number : NoticeKind → Nat
  | .cycleSkipped => 0 | .loopTripped => 1 | .swapDone => 2 | .paramsApplied => 3 | .memoryError => 4
  | .linkState => 5 | .ringState => 6 | .telemetryLevel => 7 | .telemetryFrozen => 8

def ResetKind.number : ResetKind → Nat
  | .hard => 0 | .soft => 1

def lossNumber : LossCause → Nat
  | .abort => 0 | .violation => 1

/-- The set of sections as a mask: SLOPES 0, RESIDUALS 1, COMMANDS 2 (R179). -/
def Sections.mask (x : Sections) : Nat :=
  (if x.slopes then 1 else 0) + (if x.residuals then 2 else 0) + (if x.commands then 4 else 0)

/-- The set of sections a word encodes; a bit beyond the members is out of range (R179). -/
def Sections.ofMask (n : Nat) : Option Sections :=
  if n < 8 then some ⟨n % 2 = 1, n / 2 % 2 = 1, n / 4 % 2 = 1⟩ else none

/-- The flag a word encodes (R179). -/
def flagOfNumber : Nat → Option Bool
  | 0 => some false | 1 => some true | _ => none

/-- The field of a request "enable or disable" (R145), "ENABLE or DISABLE" (R154): an enumeration numbered
in the order listed (R179), so 0 enables. DEDUCED, log entry 15. -/
def enableOfNumber : Nat → Option Bool
  | 0 => some true | 1 => some false | _ => none

/-- A value carried in two words (R179). -/
def natOf2 (hi lo : Word) : Nat := 65536 * hi.toNat + lo.toNat

/-! ### Notices (R166, R171) -/

/-- The kind of a notice. -/
def NoticePayload.kind : NoticePayload → NoticeKind
  | .cycleSkipped .. => .cycleSkipped
  | .loopTripped .. => .loopTripped
  | .swapDone .. => .swapDone
  | .paramsApplied .. => .paramsApplied
  | .memoryError .. => .memoryError
  | .linkState .. => .linkState
  | .ringState .. => .ringState
  | .telemetryLevel .. => .telemetryLevel
  | .telemetryFrozen .. => .telemetryFrozen

/-- The words of a notice payload, in the order of the rule that owns it (R24, R66, R80, R81, R104, R126,
R128, R146, R161, R162; R181). R66 gives the bank, block and row for the matrix requesters alone: a
MEMORY_ERROR of HOST_TELEMETRY carries no words for them (DEDUCED, log entry 16). -/
def NoticePayload.words : NoticePayload → List Word
  | .cycleSkipped tag cause skips => [tag] ++ word1 cause.number ++ [skips]
  | .loopTripped cause frame value limit => word1 cause.number ++ [frame] ++ word1 value ++ word1 limit
  | .swapDone active (some tag) => word1 active.number ++ [0, tag]
  | .swapDone active none => word1 active.number ++ [1]
  | .paramsApplied (.attach tag) => [0, tag]
  | .paramsApplied (.passEnd tag) => [1, tag]
  | .paramsApplied .stop => [2]
  | .memoryError who place bank block row =>
    word1 who.number ++ word2 (place / 8) ++ word1 (place % 8) ++
      (if who = .hostTelemetry then [] else word1 bank.number ++ word1 block ++ word1 row)
  | .linkState link none => word1 link.val ++ [0]
  | .linkState link (some cause) => word1 link.val ++ [1] ++ word1 (lossNumber cause)
  | .ringState sliceId joined =>
    word1 sliceId ++ word1 (if joined then RingState.onRing.number else RingState.bypass.number) ++
      (if joined then [0] else [1])
  | .telemetryLevel unread capacity => word2 unread ++ word2 capacity
  | .telemetryFrozen cause frame unread => word1 cause.number ++ [frame] ++ word2 unread

/-! ### Messages and slice frames as codes (R2, R3, R166, R180) -/

/-- A packet as it goes out: OPEN, its words, the CRC of those words, CLOSE. -/
def packetCodes (ws : List Word) : List Code :=
  [.openSym] ++ (ws ++ [crcOf ws]).map .data ++ [.closeSym]

/-- Word 0 of a control message header: message kind in bits 15 to 14, code in bits 7 to 0. -/
def messageWord0 (kind code : Nat) : Word := BitVec.ofNat 16 (kind * 16384 + code % 256)

/-- The words of a reply or a notice before its CRC: header and payload (R166, R180). -/
def Sending.words : Sending → List Word
  | .reply r =>
    [messageWord0 1 r.code, r.tag] ++ word1 r.result.number ++ word1 r.payload.length ++ r.payload
  | .notice n =>
    [messageWord0 2 n.payload.kind.number, 0, n.count] ++ word1 n.payload.words.length ++ n.payload.words

/-- The codes of a reply or a notice (R173). -/
def Sending.codes (m : Sending) : List Code := packetCodes m.words

/-- The words of a slice frame before its CRC (11_formats, Packet headers; R180). -/
def Slice.frameWords (x : Slice) : List Word :=
  [BitVec.ofNat 16 ((if x.held then 32768 else 0) + x.settings.id % 8), x.tag] ++
    word1 x.settings.firstGlobal ++ word1 x.settings.actuators ++ x.words

/-- The codes of a slice frame, OPEN to CLOSE (R141). -/
def Slice.frameCodes (x : Slice) : List Code := packetCodes x.frameWords

/-! ### Records -/

/-- The flag word of a frame record (11_formats, Frame records). -/
def FrameRecord.flags (r : FrameRecord) : Nat :=
  (if r.endSeen then 1 else 0) + (if r.duplicate then 2 else 0) + (if r.stale then 4 else 0) +
    (if r.noBuffer then 8 else 0) + (if r.notStored then 16 else 0) + (if r.aborted then 32 else 0) +
    (if r.syncLost then 64 else 0)

/-- The five words of a frame record (11_formats, Frame records). -/
def FrameRecord.words (r : FrameRecord) : List Word :=
  [r.frame, r.good, r.crcErrors, r.stored] ++ word1 r.flags

/-- Actuator parameters as a shadow record's words: enabled, gain, leak (2), lo, hi (R181). -/
def ActuatorParams.words (p : ActuatorParams) : List Word :=
  flagWord p.enabled ++ [p.gain] ++ word2 p.leak ++ [p.lo, p.hi]

/-- All seven fields of an active record (R118). -/
def ActiveRecord.words (r : ActiveRecord) : List Word :=
  r.params.words ++ signed2 r.acc ++ word2 r.saturations.toNat

/-- The actuator records of a WRITE_ACTUATORS payload, six words each (R181); none where a flag or a leak
is out of range or lo is greater than hi (R101 check 3, R179). -/
def paramsOf : List Word → Option (List ActuatorParams)
  | en :: g :: l1 :: l0 :: lo :: hi :: rest =>
    match flagOfNumber en.toNat, paramsOf rest with
    | some e, some ps =>
      if natOf2 l1 l0 ≤ 65536 ∧ lo.toInt ≤ hi.toInt then some (⟨e, g, natOf2 l1 l0, lo, hi⟩ :: ps) else none
    | _, _ => none
  | [] => some []
  | _ => none

/-- The pairs of a WRITE_PAIRS payload, three words each (R181); none where an index is greater than
1,023 or the two are equal (R103 check 3). -/
def pairsOf : List Word → Option (List ActuatorPair)
  | f :: g :: d :: rest =>
    match pairsOf rest with
    | some ps =>
      if f.toNat ≤ 1023 ∧ g.toNat ≤ 1023 ∧ f.toNat ≠ g.toNat then some (⟨f.toNat, g.toNat, d.toNat⟩ :: ps)
      else none
    | none => none
  | [] => some []
  | _ => none

/-- A WRITE_MATRIX's coefficients as rows of 256 words. -/
def rowsOf : Nat → List Word → List (List Word)
  | 0, _ => []
  | n + 1, ws => ws.take 256 :: rowsOf n (ws.drop 256)

end Sys2Proof.Machine
end

