-- ==== Sys2Proof/Machine/Ops.lean ====
section
/-! DEFINITION. The named operations over the state's parts: one update per block, the two slope buffers and
the two banks by name, the stacked DRAM, the slope buffers' block slots, the outgoing lanes. -/

namespace Sys2Proof.Machine

/-! ### One update per block -/

def State.updSau (s : State) (f : Sau → Sau) : State := { s with sau := f s.sau }
def State.updCtu (s : State) (f : Ctu → Ctu) : State := { s with ctu := f s.ctu }
def State.updMmc (s : State) (f : Mmc → Mmc) : State := { s with mmc := f s.mmc }
def State.updRce (s : State) (f : Rce → Rce) : State := { s with rce := f s.rce }
def State.updTfu (s : State) (f : Tfu → Tfu) : State := { s with tfu := f s.tfu }
def State.updLsv (s : State) (f : Lsv → Lsv) : State := { s with lsv := f s.lsv }
def State.updDrp (s : State) (f : Drp → Drp) : State := { s with drp := f s.drp }
def State.updTmr (s : State) (f : Tmr → Tmr) : State := { s with tmr := f s.tmr }
def State.updClp (s : State) (f : Clp → Clp) : State := { s with clp := f s.clp }

/-- The link numbered `l`. -/
def State.link (s : State) (l : Link) : LinkState := s.links[l]

def State.updLink (s : State) (l : Link) (f : LinkState → LinkState) : State :=
  { s with links := s.links.set l.val (f s.links[l]) l.isLt }

/-- Every link, updated alike (the two resets, CLEAR_COUNTERS). -/
def State.updLinks (s : State) (f : LinkState → LinkState) : State :=
  { s with links := mapTable (fun _ x => f x) s.links }

/-- The supervisor's cycle counters, updated. -/
def State.updCounts (s : State) (f : CycleCounts → CycleCounts) : State :=
  s.updLsv fun v => { v with counts := f v.counts }

/-! ### Slope buffers -/

def State.buffer (s : State) : BufferId → SlopeBuffer
  | .a => s.sau.bufA
  | .b => s.sau.bufB

def BufferId.other : BufferId → BufferId
  | .a => .b
  | .b => .a

def State.updBuffer (s : State) (x : BufferId) (f : SlopeBuffer → SlopeBuffer) : State :=
  s.updSau fun u =>
    match x with
    | .a => { u with bufA := f u.bufA }
    | .b => { u with bufB := f u.bufB }

/-- The descriptor of a buffer. -/
def State.desc (s : State) (x : BufferId) : Descriptor := (s.buffer x).desc

def State.updDesc (s : State) (x : BufferId) (f : Descriptor → Descriptor) : State :=
  s.updBuffer x fun y => { y with desc := f y.desc }

/-- The 256 slopes in a block slot of a buffer. A slot that no copy has stored holds no defined value
(R50): each of its slopes is a free value. -/
def slotSlopes (slots : List (Nat × List Word)) (g : Nat) : List Word :=
  match slots.lookup g with
  | some xs => xs
  | none => (List.range 256).map (Config.unstoredSlope g)

/-- A block slot written, the list kept by rising index. -/
def storeSlot (g : Nat) (xs : List Word) : List (Nat × List Word) → List (Nat × List Word)
  | [] => [(g, xs)]
  | (h, ys) :: rest =>
    if g < h then (g, xs) :: (h, ys) :: rest
    else if g = h then (g, xs) :: rest
    else (h, ys) :: storeSlot g xs rest

/-! ### Banks -/

def BankId.other : BankId → BankId
  | .zero => .one
  | .one => .zero

def State.bank (s : State) : BankId → Bank
  | .zero => s.mmc.bank0
  | .one => s.mmc.bank1

def State.updBank (s : State) (x : BankId) (f : Bank → Bank) : State :=
  s.updMmc fun m =>
    match x with
    | .zero => { m with bank0 := f m.bank0 }
    | .one => { m with bank1 := f m.bank1 }

/-- The directory entry of a global block index in a bank. -/
def State.entry (s : State) (x : BankId) (g : Nat) : DirEntry := entryAt (s.bank x).directory g .absent

/-! ### The stacked DRAM (R63 to R65) -/

/-- Bursts in the stacked DRAM: 131,072 pages of eight (The stacked DRAM). -/
def burstsInDram : Nat := 1048576

/-- The DRAM lists its written bytes by rising address, each once. An address that is not listed holds no
defined value, so no listed entry can equal what an unlisted address reads as (log entry 6). -/
abbrev Memory.wf (m : List Host.Cell) : Prop := m.Pairwise fun x y => x.1 < y.1

/-- The byte at an address, or none where nothing has been written since the last hard reset (R63). -/
def Memory.byteAt (m : List Host.Cell) (addr : Nat) : Option Byte := m.lookup addr

/-- Bytes listed from `base` on. -/
def Memory.cellsFrom (base : Nat) : List Byte → List Host.Cell
  | [] => []
  | b :: bs => (base, b) :: Memory.cellsFrom (base + 1) bs

/-- The bytes from `base` on replaced by `bytes`. -/
def Memory.writeBytes (m : List Host.Cell) (base : Nat) (bytes : List Byte) : List Host.Cell :=
  m.filter (fun c => c.1 < base) ++ Memory.cellsFrom base bytes ++
    m.filter (fun c => base + bytes.length ≤ c.1)

/-- A 16-bit word as two bytes of DRAM, the more significant at the lower address (DESIGN CHOICE, log
entry 9; nothing on the part's links shows it). -/
def wordBytes (w : Word) : List Byte := [w.extractLsb' 8 8, w.extractLsb' 0 8]

/-- Words as bytes of DRAM. -/
def bytesOf (ws : List Word) : List Byte := (ws.map wordBytes).flatten

/-- The 256 words of a burst: the words given, cut or filled with zeros to a whole burst (R65: every burst
write covers whole ECC words). -/
def burstWords (ws : List Word) : List Word := (ws ++ List.replicate 256 0).take 256

/-- A burst written: its 512 bytes. -/
def Memory.writeBurst (m : List Host.Cell) (place : Nat) (ws : List Word) : List Host.Cell :=
  Memory.writeBytes m (512 * place) (bytesOf (burstWords ws))

/-- Word `j` of a burst as stored, or none where it is unwritten. -/
def Memory.wordAt (m : List Host.Cell) (place j : Nat) : Option Word :=
  match Memory.byteAt m (512 * place + 2 * j), Memory.byteAt m (512 * place + 2 * j + 1) with
  | some hi, some lo => some (hi ++ lo)
  | _, _ => none

/-- ECC word `i` of a burst has been written since the last hard reset (R63). -/
def Memory.eccWritten (m : List Host.Cell) (place i : Nat) : Bool :=
  (Memory.byteAt m (512 * place + 8 * i)).isSome

/-- The errors of a written burst cleared, by fresh check bits (R65). -/
def clearWeak (weak : List (Nat × EccResult)) (place : Nat) : List (Nat × EccResult) :=
  weak.filter fun e => e.1 < 64 * place || 64 * place + 64 ≤ e.1

/-- What the check of an ECC word finds after one more error: a second error in a word makes it
uncorrectable (R64). -/
def worsen (severe : Bool) : Option EccResult → EccResult
  | none => if severe then .uncorrectable else .corrected
  | some .passed => if severe then .uncorrectable else .corrected
  | some .corrected => .uncorrectable
  | some .uncorrectable => .uncorrectable

/-- An error added to ECC word `n`, the list kept by rising word number. -/
def addWeak (n : Nat) (severe : Bool) : List (Nat × EccResult) → List (Nat × EccResult)
  | [] => [(n, worsen severe none)]
  | (k, e) :: rest =>
    if n < k then (n, worsen severe none) :: (k, e) :: rest
    else if n = k then (k, worsen severe (some e)) :: rest
    else (k, e) :: addWeak n severe rest

/-- The errors that have come about in a burst's written words since they were last read or written; an
unwritten word has none of its own, its result is undefined (R63). -/
def addErrors (m : List Host.Cell) (place : Nat) (weak : List (Nat × EccResult)) (errors : List BitError) :
    List (Nat × EccResult) :=
  errors.foldl
    (fun w e => if Memory.eccWritten m place e.word then addWeak (64 * place + e.word) e.severe w else w) weak

/-- What the check of ECC word `i` of a burst finds (R64); a free value where the word is unwritten (R63). -/
def eccOf (m : List Host.Cell) (weak : List (Nat × EccResult)) (place drawn i : Nat) : EccResult :=
  if Memory.eccWritten m place i then (weak.lookup (64 * place + i)).getD .passed
  else Config.unwrittenEcc drawn i

/-- What the checks of a burst's 64 ECC words find. -/
def eccResults (m : List Host.Cell) (weak : List (Nat × EccResult)) (place drawn : Nat) : List EccResult :=
  (List.range 64).map (eccOf m weak place drawn)

/-- The 256 words a burst read delivers: as stored, or corrected to what was stored (R64); a free value
where nothing was written (R63). -/
def readWords (m : List Host.Cell) (place drawn : Nat) : List Word :=
  (List.range 256).map fun j => (Memory.wordAt m place j).getD (Config.unwrittenWord drawn j)

/-! ### Outgoing lanes -/

/-- Codes sent on ring-out. -/
def State.sendRing (s : State) (cs : List Code) : State := { s with ringOut := s.ringOut ++ cs }

/-- Codes sent on the control link's transmit lane. -/
def State.sendControl (s : State) (cs : List Code) : State := { s with controlOut := s.controlOut ++ cs }

end Sys2Proof.Machine
end

