-- ==== Sys2Proof/Machine/Flags.lean ====
section
/-! DEFINITION. The conditions the rules name and read from the state whenever they are needed: finished,
awaits computation, protected, running, and their like. -/

namespace Sys2Proof.Machine

/-- The loop is running: OPEN, CLOSED or HELD. -/
def State.running (s : State) : Bool := s.lsv.loop != .stopped

/-- A, the actuator count of the slice settings. -/
def State.actuators (s : State) : Nat := s.drp.settings.actuators

/-- The pages a column block needs: ceil(A/8) (R70). -/
def State.pagesNeeded (s : State) : Nat := ceilDiv s.actuators 8

/-! ### Receivers -/

def PacketSlot.other : PacketSlot → PacketSlot
  | .zero => .one
  | .one => .zero

def LinkState.packet (x : LinkState) : PacketSlot → PacketBuffer
  | .zero => x.buffer0
  | .one => x.buffer1

/-- The FREE packet buffer the receiver takes: packet buffer 0 if both are FREE (R10). -/
def LinkState.freeSlot (x : LinkState) : Option PacketSlot :=
  if x.buffer0.state = .free then some .zero
  else if x.buffer1.state = .free then some .one
  else none

/-- The words of the packet a link presents: its oldest DELIVERED one (R9). -/
def LinkState.presented (x : LinkState) : Option (List Word) := x.order.head?.map fun k => (x.packet k).words

/-- The expected slope count of a block of a sensor (R16). -/
def MapEntry.expected (e : MapEntry) (block : Nat) : Nat :=
  if block + 1 < e.blocks then 256 else e.slopes - 256 * (e.blocks - 1)

/-! ### The sensor packet header (11_formats, Packet headers; R180) -/

/-- Word `i` of a packet, 0 where the packet is shorter. -/
def packetWord (ws : List Word) (i : Nat) : Word := ws.getD i 0

def packetEnd (ws : List Word) : Bool := (packetWord ws 0).getLsbD 15
def packetSensor (ws : List Word) : Nat := (packetWord ws 0).toNat % 8
def packetBlock (ws : List Word) : Nat := (packetWord ws 1).toNat % 16
def packetFrame (ws : List Word) : Word := packetWord ws 2
def packetSlopes (ws : List Word) : Nat := (packetWord ws 3).toNat

/-- The payload: the words after the header, as many as the slope count says. -/
def packetPayload (ws : List Word) : List Word := (ws.drop 4).take (packetSlopes ws)

/-- The invalid-slope marker, −32,768. -/
def invalidSlope : Word := 0x8000

/-- Payload words equal to −32,768 (R17, R31). -/
def markerCount (payload : List Word) : Nat := payload.count invalidSlope

/-! ### Slope buffers -/

/-- A sensor is finished in a buffer when it is complete or its END seen is set (R40). -/
def SensorStatus.finished (x : SensorStatus) : Bool := x.complete || x.endSeen

/-- Every block index from 0 to the block count less one is in the accepted set (R31). -/
def allAccepted (accepted : BitVec 16) (blocks : Nat) : Bool :=
  (List.range blocks).all fun i => accepted.getLsbD i

/-- A buffer awaits computation: CLOSED, engine relation NONE, outcome none (R46, R55). -/
def Descriptor.awaits (d : Descriptor) : Bool :=
  d.state == .closed && d.relation == .none && d.outcome == none

/-- The OPEN buffer, if there is one (R27: at most one). -/
def State.openBuffer (s : State) : Option BufferId :=
  if (s.desc .a).state = .opened then some .a
  else if (s.desc .b).state = .opened then some .b
  else none

/-- The buffer that opens next: the FREE one, or of two the one not most recently opened (R29). -/
def State.freeBuffer (s : State) : Option BufferId :=
  if (s.desc s.sau.lastOpened.other).state = .free then some s.sau.lastOpened.other
  else if (s.desc s.sau.lastOpened).state = .free then some s.sau.lastOpened
  else none

/-- The oldest buffer that awaits computation, by the order of closure (R46). -/
def State.oldestWaiting (s : State) : Option BufferId := s.sau.closeOrder.find? fun x => (s.desc x).awaits

/-- A buffer that an engine entering IDLE in STREAM order prefers: OPEN with relation NONE and no outcome
(R86). -/
def State.openToTake (s : State) : Option BufferId :=
  [BufferId.a, BufferId.b].find? fun x =>
    (s.desc x).state == .opened && (s.desc x).relation == .none && (s.desc x).outcome == none

/-- An enabled ESSENTIAL sensor is not complete in the buffer (R43). -/
def State.missingEssential (s : State) (x : BufferId) : Bool :=
  (List.finRange 8).any fun l =>
    (s.link l).entry.enabled && (s.link l).entry.role == .essential && !((s.desc x).sensors[l]).complete

/-- Every enabled sensor is finished in the buffer (R40). -/
def State.allFinished (s : State) (x : BufferId) : Bool :=
  (List.finRange 8).all fun l => !(s.link l).entry.enabled || ((s.desc x).sensors[l]).finished

/-- Every enabled sensor is complete in the buffer (R40). -/
def State.allComplete (s : State) (x : BufferId) : Bool :=
  (List.finRange 8).all fun l => !(s.link l).entry.enabled || ((s.desc x).sensors[l]).complete

/-! ### Matrix memory -/

/-- Two page ranges share a page (R73). -/
def pagesMeet (base1 len1 base2 len2 : Nat) : Bool := base1 < base2 + len2 && base2 < base1 + len1

/-- The global block indices of a bank whose present entry shares a page with the range. -/
def Bank.overlaps (x : Bank) (base len : Nat) (skip : Option Nat) : Bool :=
  (List.range 64).any fun g =>
    some g != skip && (entryAt x.directory g .absent).present &&
      pagesMeet (entryAt x.directory g .absent).base (entryAt x.directory g .absent).pages base len

/-- The lowest global block index of a bank whose present entry is shorter than `pages` (R78, R135). -/
def Bank.tooShort (x : Bank) (pages : Nat) : Option Nat :=
  (List.range 64).find? fun g =>
    (entryAt x.directory g .absent).present && (entryAt x.directory g .absent).pages < pages

/-- The place of row `a` of a column block, in bursts from the start of the DRAM (R70). -/
def rowPlace (base a : Nat) : Nat := 8 * base + a

/-- The port is transferring a burst of the engine. -/
def State.enginePort (s : State) : Bool :=
  match s.mmc.port with
  | some p => p.who == .engine
  | none => false

/-! ### The recorder -/

/-- The sections a store's records are laid out with (R152). -/
def Tmr.layout (t : Tmr) : Sections :=
  match t.config with
  | some c => c.sections
  | none => ⟨false, false, false⟩

/-- A record in writing holds the buffer for its slope copy (R45, R159). -/
def Tmr.holdsBuffer (t : Tmr) (x : BufferId) : Bool :=
  match t.writing with
  | some w => w.holds && w.buffer == x
  | none => false

end Sys2Proof.Machine
end

