-- ==== Sys2Proof/Machine/Link.lean ====
section
/-! DEFINITION. The control link's shared operations: raising a notice, answering a request, the transmit
arbiter, taking a request into execution. -/

namespace Sys2Proof.Machine

/-! ### Notices (R171) -/

/-- A notice joined to the list: it replaces the payload of the entry of its kind and raises its count, or
joins the tail with a count of 1 (R171). -/
def addNotice (p : NoticePayload) : List Notice → List Notice
  | [] => [⟨p, 1⟩]
  | n :: ns => if n.payload.kind = p.kind then ⟨p, satSucc n.count⟩ :: ns else n :: addNotice p ns

/-- A notice kind is in the notice mask (R172, R179). -/
def inMask (mask : BitVec 9) (k : NoticeKind) : Bool := mask.getLsbD k.number

/-- A block raises a notice; a kind that is masked off has no effect on the list (R171). -/
def State.raise (s : State) (p : NoticePayload) : State :=
  s.updClp fun c => if inMask c.mask p.kind then { c with notices := addNotice p c.notices } else c

/-! ### Replies (R169, R170) -/

/-- The pending entry of the reply queue becomes the complete reply. -/
def fillPending (r : Reply) : ReplyEntry → ReplyEntry
  | .pending => .ready r
  | .ready q => .ready q

/-- The reply of the request in execution is filled (R169). -/
def Clp.answer (c : Clp) (result : Result) (payload : List Word) : Clp :=
  match c.inExec with
  | some e => { c with replies := c.replies.map (fillPending ⟨e.request.code, e.request.tag, result, payload⟩) }
  | none => c

/-- The request in execution is complete: its reply is filled and the next request may start (R169). -/
def State.complete (s : State) (result : Result) (payload : List Word) : State :=
  s.updClp fun c => { c.answer result payload with inExec := none }

/-- The request in execution waits for `job`. -/
def State.setJob (s : State) (job : Job) : State :=
  s.updClp fun c => { c with inExec := c.inExec.map fun e => { e with job := job } }

/-! ### The transmitter (R173) -/

/-- The transmit arbiter's choice for a free transmitter: the complete reply at the head of the reply queue;
else, where the queue is empty or its head is pending, the head of the notice list; else IDLE. The
chosen entry leaves its queue or list (R173). -/
def Clp.chooseNext (c : Clp) : Clp :=
  match c.replies, c.notices with
  | .ready r :: rest, _ => { c with sending := some (.reply r), replies := rest }
  | _, n :: ns => { c with sending := some (.notice n), notices := ns }
  | _, [] => c

/-- The transmit arbiter acts whenever the transmitter is free (R173). -/
def State.transmit (s : State) : State :=
  s.updClp fun c => if c.sending.isNone then c.chooseNext else c

/-! ### Taking a request into execution (R169) -/

/-- Whether the head of the request queue may be taken into execution: no request in execution, reset in
hand clear, and fewer than 16 entries in the reply queue (R169). -/
def State.mayStart (s : State) : Bool :=
  s.clp.inExec.isNone && !s.clp.resetInHand && s.clp.replies.length < 16

/-- A request leaves the head of the request queue, of which `rest` is left, and goes into execution; a
pending entry for its reply joins the tail of the reply queue (R169). -/
def State.start (s : State) (r : Request) (rest : List Request) : State :=
  s.updClp fun c => { c with requests := rest, inExec := some ⟨r, .now⟩, replies := c.replies ++ [.pending] }

end Sys2Proof.Machine
end

