-- ==== Sys2Proof/Machine/Recorder.lean ====
section
/-! DEFINITION. The telemetry recorder's shared operations: the geometry of a store, a record's words, taking
an outcome, starting, presenting, joining and cutting a record, the freeze (R152 to R162). -/

namespace Sys2Proof.Machine

/-! ### Geometry (R152, R153) -/

/-- Words of a record's header (R152). -/
def headerLength : Nat := 32

/-- Words of the SLOPES section of a store, selected or not (R152). -/
def Geometry.slopeWords (g : Geometry) : Nat := 256 * g.blocks.sum

/-- The length of a section in the store's layout, 0 for one that is not selected (R152). -/
def slopesLength (x : Sections) (g : Geometry) : Nat := if x.slopes then g.slopeWords else 0
def residualsLength (x : Sections) (g : Geometry) : Nat := if x.residuals then 2 * g.actuators else 0
def commandsLength (x : Sections) (g : Geometry) : Nat := if x.commands then g.actuators else 0

/-- The record length in words (R153). -/
def recordLength (x : Sections) (g : Geometry) : Nat :=
  headerLength + slopesLength x g + residualsLength x g + commandsLength x g

/-- The block counts of the enabled sensors in sensor order, 0 for a sensor that is not enabled. -/
def State.enabledBlocks (s : State) : List Nat :=
  s.links.toList.map fun x => if x.entry.enabled then x.entry.blocks else 0

/-- The geometry TELEMETRY_ENABLE fixes from the configuration, the sensor map and the slice settings
(R153). -/
def State.newGeometry (s : State) (c : TelemetryConfig) : Geometry :=
  let g : Geometry := { slotSize := 0, capacity := 0, actuators := s.actuators, blocks := s.enabledBlocks }
  let size := ceilDiv (recordLength c.sections g) 256
  { g with slotSize := size, capacity := c.pages * 8 / size }

/-- The first burst of a slot, counted from the start of the DRAM (R153). -/
def slotPlace (c : TelemetryConfig) (g : Geometry) (slot : Nat) : Nat := 8 * c.base + slot * g.slotSize

/-! ### A record's words (R158, R159, R182) -/

/-- What the cycle whose outcome is taken produced, beside its buffer's descriptor (R158). -/
structure CycleReport where
  outcome : CycleOutcome
  skip : Option SkipCause
  loop : Option LoopState
  bank : Option BankId
  attachedAt : Option Time
  endedAt : Option Time
  saturated : Nat
  adjustments : Nat
  residuals : List Int
  commands : Option (List Word)
  deriving DecidableEq, Repr

/-- The sections a record carries: a selected section is present when the cycle produced it (R158). -/
def sectionsPresent (layout : Sections) (d : Descriptor) (r : CycleReport) : Sections :=
  { slopes := layout.slopes && d.state != .opened
    residuals := layout.residuals && r.outcome == .completed
    commands := layout.commands && r.commands.isSome }

/-- A mask of the sensors for which `f` holds (R179). -/
def sensorMask (d : Descriptor) (f : SensorStatus → Bool) : Nat :=
  ((List.finRange 8).map fun i => if f d.sensors[i] then 2 ^ i.val else 0).sum

/-- The 32 header words of a record (R182): what the cycle did not produce is 0, with its presence bit in
word 21 clear. -/
def headerWords (sequence : Count) (layout present : Sections) (d : Descriptor) (r : CycleReport) : List Word :=
  let completed := r.outcome == .completed
  let closedAt := if d.state == .opened then none else some d.closedAt
  let bit (b : Bool) (i : Nat) : Nat := if b then 2 ^ i else 0
  word2 sequence.toNat ++ [d.tag] ++ word1 r.outcome.number ++
    word1 ((r.skip.map SkipCause.number).getD 0) ++
    word1 ((d.cause.map ClosureCause.number).getD 0) ++
    word1 ((r.loop.map LoopState.number).getD 0) ++
    word1 ((r.bank.map BankId.number).getD 0) ++
    word2 d.openedAt.toNat ++ word2 (closedAt.getD 0).toNat ++
    word2 (r.attachedAt.getD 0).toNat ++ word2 (r.endedAt.getD 0).toNat ++
    word1 (sensorMask d (·.complete)) ++ word1 (sensorMask d (·.finished)) ++
    word1 d.markers ++
    word1 (if completed then r.saturated else 0) ++ word1 (if completed then r.adjustments else 0) ++
    word1 (bit d.cause.isSome 0 + bit r.loop.isSome 1 + bit r.bank.isSome 2 + bit closedAt.isSome 3 +
      bit r.attachedAt.isSome 4 + bit r.endedAt.isSome 5 + bit completed 6) ++
    word1 layout.mask ++ word1 present.mask ++ List.replicate 8 0

/-- The slopes of one sensor in a record: for each of its blocks the 256 slots of its global block index if
the block was accepted, 256 zeros if not (R159). -/
def State.sensorSlopes (s : State) (x : BufferId) (l : Link) (blocks : Nat) : List Word :=
  ((List.range blocks).map fun b =>
    if ((s.desc x).sensors[l]).accepted.getLsbD b then
      slotSlopes (s.buffer x).slots ((s.link l).entry.base + b)
    else List.replicate 256 0).flatten

/-- The SLOPES section of a record (R152, R159). -/
def State.slopeSection (s : State) (x : BufferId) (g : Geometry) : List Word :=
  ((List.finRange 8).map fun l => s.sensorSlopes x l (g.blocks.getD l.val 0)).flatten

/-- A section of a record: its words where the record carries it, zeros where it does not (R159). -/
def sectionWords (carried : Bool) (len : Nat) (ws : List Word) : List Word :=
  if carried then ws else List.replicate len 0

/-- All words of a record, header first, then the sections of the layout (R152, R159). -/
def State.recordWords (s : State) (g : Geometry) (w : Writing) : List Word :=
  let x := s.tmr.layout
  w.header ++
    sectionWords w.sections.slopes (slopesLength x g) (s.slopeSection w.buffer g) ++
    sectionWords w.sections.residuals (residualsLength x g) (w.residuals.map signed2).flatten ++
    sectionWords w.sections.commands (commandsLength x g) w.commands

/-- The burst of the slot that holds the last slope word (R159). -/
def lastSlopeBurst (x : Sections) (g : Geometry) : Nat := (headerLength + slopesLength x g - 1) / 256

/-! ### Writing -/

/-- The recorder presents its next burst at the arbiter, at once when the previous one has been granted
(R159, R67). -/
def State.presentRecord (s : State) : State :=
  match s.tmr.writing, s.tmr.geometry, s.tmr.config with
  | some w, some g, some c =>
    if w.next < g.slotSize then
      let b : Burst :=
        { who := .telemetry, place := slotPlace c g w.slot + w.next,
          write := some (burstWords ((s.recordWords g w).drop (256 * w.next))),
          bank := .zero, block := 0, row := w.next, dropped := false }
      (s.updMmc fun m => { m with recorderWaits := some b }).updTmr fun t =>
        { t with writing := some { w with next := w.next + 1 } }
    else s
  | _, _, _ => s

/-- A RETIRING buffer returns to FREE when its engine relation is not ATTACHED and no record is copying its
slopes (R45). -/
def State.freeIfReleased (s : State) (x : BufferId) : State :=
  if (s.desc x).state = .retiring ∧ (s.desc x).relation ≠ .attached ∧ s.tmr.holdsBuffer x = false then
    s.updDesc x fun d => { d with state := .free }
  else s

/-- The hold of the record in writing on its buffer ends (R159, R160). -/
def State.releaseHold (s : State) : State :=
  match s.tmr.writing with
  | some w => (s.updTmr fun t => { t with writing := some { w with holds := false } }).freeIfReleased w.buffer
  | none => s

/-- The record in writing joins the unread list; the level notice where the count rises to the threshold
(R159, R161). -/
def State.joinUnread (s : State) : State :=
  match s.tmr.writing, s.tmr.geometry, s.tmr.config with
  | some w, some g, some c =>
    let t := s.updTmr fun t =>
      { t with
        writing := none
        unread := t.unread ++ [⟨w.slot, w.tag, w.sections⟩]
        nextSlot := if w.slot + 1 < g.capacity then w.slot + 1 else 0
        counts := { t.counts with written := t.counts.written + 1 } }
    if c.threshold ≠ 0 ∧ t.tmr.unread.length = c.threshold then
      t.raise (.telemetryLevel t.tmr.unread.length g.capacity)
    else t
  | _, _, _ => s

/-- A burst of the record in writing has ended (R159). -/
def State.recordBurstEnded (s : State) (row : Nat) : State :=
  match s.tmr.writing, s.tmr.geometry with
  | some w, some g =>
    let t := if w.holds ∧ row = lastSlopeBurst s.tmr.layout g then s.releaseHold else s
    if row + 1 = g.slotSize then t.joinUnread else t
  | _, _ => s

/-- The record in writing is cut: its waiting burst is withdrawn, a burst already granted ends unheeded,
its hold ends, and it does not join the list (R160). -/
def State.cutRecord (s : State) : State :=
  match s.tmr.writing with
  | some w =>
    let t := (s.updMmc fun m =>
      { m with
        recorderWaits := none
        port := m.port.map fun p => if p.who = .telemetry then { p with dropped := true } else p }).updTmr
        fun t => { t with writing := none, counts := { t.counts with cut := t.counts.cut + 1 } }
    t.freeIfReleased w.buffer
  | none => s

/-- A record starts writing into the next slot (R157, R158). It holds the buffer when it has slopes to
copy. -/
def State.startRecord (s : State) (x : BufferId) (r : CycleReport) : State :=
  match s.tmr.geometry with
  | some g =>
    let layout := s.tmr.layout
    let present := sectionsPresent layout (s.desc x) r
    let w : Writing :=
      { slot := s.tmr.nextSlot, tag := (s.desc x).tag,
        header := headerWords s.tmr.sequence layout present (s.desc x) r,
        sections := present, buffer := x, holds := present.slopes && 0 < slopesLength layout g,
        residuals := r.residuals, commands := r.commands.getD [], next := 0 }
    (s.updTmr fun t => { t with writing := some w }).presentRecord
  | none => s

/-- The decision on a record that becomes due (R157). -/
def State.recordDue (s : State) (x : BufferId) (r : CycleReport) : State :=
  match s.tmr.geometry, s.tmr.config with
  | some g, some c =>
    let full := s.updTmr fun t => { t with counts := { t.counts with full := t.counts.full + 1 } }
    if s.tmr.writing.isSome then
      s.updTmr fun t => { t with counts := { t.counts with late := t.counts.late + 1 } }
    else if s.tmr.unread.length < g.capacity then s.startRecord x r
    else if c.mode = .queue then full
    else
      match s.tmr.unread with
      | [] => full
      | oldest :: rest =>
        if s.tmr.underRead = some oldest.slot then full
        else
          (s.updTmr fun t =>
            { t with
              unread := rest
              nextSlot := oldest.slot
              counts := { t.counts with overwritten := t.counts.overwritten + 1 } }).startRecord x r
  | _, _ => s

/-- A COMPLETED or SKIPPED outcome is taken while telemetry is enabled: the decimation counter rises, and
at N a record becomes due (R156). The record sequence, a 32-bit count, wraps to 0 after its largest value
(DESIGN CHOICE, log entry 36). -/
def State.recordOutcome (s : State) (x : BufferId) (r : CycleReport) : State :=
  match s.tmr.enabled, s.tmr.config with
  | true, some c =>
    if s.tmr.decimated + 1 < c.decimation then
      s.updTmr fun t => { t with decimated := t.decimated + 1 }
    else
      (s.updTmr fun t => { t with decimated := 0, sequence := t.sequence + 1 }).recordDue x r
  | _, _ => s

/-- The recorder is told of a trip: in RING mode with telemetry enabled it freezes (R162). -/
def State.freeze (s : State) (cause : TripCause) (frame : Word) : State :=
  match s.tmr.enabled, s.tmr.config with
  | true, some c =>
    if c.mode = .ring then
      (s.updTmr fun t => { t with enabled := false, frozen := true }).raise
        (.telemetryFrozen cause frame s.tmr.unread.length)
    else s
  | _, _ => s

end Sys2Proof.Machine
end

