-- ==== Sys2Proof/Machine/Supervisor.lean ====
section
/-! DEFINITION. The loop supervisor's shared operations: counting outcomes, the trips, and handing an
outcome to the supervisor and the recorder (R124 to R128, R156, R162). -/

namespace Sys2Proof.Machine

/-- The count of closures for a cause rises by one (R42, R130). -/
def countClosure (cause : ClosureCause) (c : CycleCounts) : CycleCounts :=
  match cause with
  | .complete => { c with closedComplete := c.closedComplete + 1 }
  | .ended => { c with closedEnded := c.closedEnded + 1 }
  | .deadline => { c with closedDeadline := c.closedDeadline + 1 }
  | .overtaken => { c with closedOvertaken := c.closedOvertaken + 1 }

/-- The skipped count of a cause rises by one (R126). -/
def countSkip (cause : SkipCause) (c : CycleCounts) : CycleCounts :=
  match cause with
  | .missing => { c with skippedMissing := c.skippedMissing + 1 }
  | .memory => { c with skippedMemory := c.skippedMemory + 1 }

/-- The consecutive skip count raised by one, stopping at 65,535, trips a CLOSED loop when it is at least a
limit that is not 0 (R126). -/
def Lsv.skipTrips (v : Lsv) : Bool :=
  v.loop == .closed && v.skipLimit != 0 && v.skipLimit ≤ (satSucc v.skips).toNat

/-- A saturated count trips a CLOSED loop when it is at least a limit that is not 0 (R125). -/
def Lsv.saturationTrips (v : Lsv) (saturated : Nat) : Bool :=
  v.loop == .closed && v.saturationLimit != 0 && v.saturationLimit ≤ saturated

/-- A trip: the loop goes to HELD, the cause and frame are kept, LOOP_TRIPPED is raised (R128). -/
def State.trip (s : State) (cause : TripCause) (frame : Word) (value limit : Nat) : State :=
  (s.updLsv fun v => { v with loop := .held, tripCause := some cause, tripFrame := frame }).raise
    (.loopTripped cause frame value limit)

/-- A SKIPPED outcome, taken by the supervisor (R126, R128). -/
def State.superviseSkip (s : State) (tag : Word) (cause : SkipCause) : State :=
  let n := satSucc s.lsv.skips
  let t := (s.updLsv fun v => { v with skips := n, counts := countSkip cause v.counts }).raise
    (.cycleSkipped tag cause n)
  if s.lsv.skipTrips then t.trip .skips tag n.toNat s.lsv.skipLimit else t

/-- A SKIPPED outcome given to a buffer's cycle: the supervisor takes it, then the recorder, which freezes
after it if the loop tripped (R126, R128, R156, R162). -/
def State.giveSkip (s : State) (x : BufferId) (cause : SkipCause) (r : CycleReport) : State :=
  let tag := (s.desc x).tag
  let t := s.updDesc x fun d => { d with outcome := some .skipped, skip := some cause }
  let u := (t.superviseSkip tag cause).recordOutcome x r
  if s.lsv.skipTrips then u.freeze .skips tag else u

/-- A COMPLETED outcome, taken by the supervisor with the counts of its pass (R125, R128). -/
def State.superviseCompletion (s : State) (tag : Word) (saturated adjustments : Nat) : State :=
  let t := s.updLsv fun v =>
    { v with
      skips := 0
      counts := { v.counts with
        completed := v.counts.completed + 1
        actuatorSaturations := addCount v.counts.actuatorSaturations saturated
        pairAdjustments := addCount v.counts.pairAdjustments adjustments } }
  if s.lsv.saturationTrips saturated then t.trip .saturation tag saturated s.lsv.saturationLimit else t

/-- ABANDONED outcomes, one for each buffer the SAU abandons (R127). -/
def State.superviseAbandon (s : State) (n : Nat) : State :=
  s.updCounts fun c => { c with abandoned := addCount c.abandoned n }

end Sys2Proof.Machine
end

