-- ==== Sys2Proof/Machine/Filter.lean ====
section
/-! DEFINITION. The temporal filter's shared operations: the staged apply, the arithmetic of a filter pass,
command words and presets (R104 to R117), and a slice joining the outbound queue (R147). -/

namespace Sys2Proof.Machine

/-! ### Limits -/

/-- The range of an accumulator, 256 × lo to 256 × hi (R100). -/
def ActuatorParams.low (p : ActuatorParams) : Int := 256 * p.lo.toInt
def ActuatorParams.high (p : ActuatorParams) : Int := 256 * p.hi.toInt

/-- A value clamped to the range of its actuator. -/
def ActuatorParams.clamp (p : ActuatorParams) (x : Int) : Int := clampInt p.low p.high x

/-! ### The staged apply (R104) -/

/-- One active record after an apply: the shadow parameters, the accumulator clamped into the new limits,
the saturation count as it was (R104). -/
def applyRecord (p : ActuatorParams) (r : ActiveRecord) : ActiveRecord :=
  { r with params := p, acc := p.clamp r.acc }

/-- The effect of an apply on the filter's own state (R104). -/
def Tfu.apply (t : Tfu) : Tfu :=
  { t with
    active := mapTable (fun i r => applyRecord (entryAt t.shadow i r.params) r) t.active
    activePairs := t.shadowPairs
    applyPending := false
    applyDue := false }

/-- A pending apply made at an event, with its notice (R104). -/
def State.applyAt (s : State) (event : ApplyEvent) : State :=
  (s.updTfu Tfu.apply).raise (.paramsApplied event)

/-- The TFU is told of an attach: a pending apply is made now, or at the end of a running pass (R106). -/
def State.filterAttach (s : State) (tag : Word) : State :=
  if s.tfu.applyPending then
    if s.tfu.pass.isSome then s.updTfu fun t => { t with applyDue := true, applyTag := tag }
    else s.applyAt (.attach tag)
  else s

/-! ### The pass (R109 to R112) -/

/-- One actuator's line in a pass: its active parameters, its pass value, whether it has been saturated. -/
structure PassLine where
  params : ActuatorParams
  value : Int
  saturated : Bool
  deriving DecidableEq, Repr

/-- The leak term (R110). -/
def leakTerm (p : ActuatorParams) (c : Int) : Int := roundDiv (p.leak * c) 65536

/-- The gain term (R110). -/
def gainTerm (p : ActuatorParams) (r : Int) : Int := roundDiv (p.gain.toInt * r) 4096

/-- An enabled actuator's value clamped to its limits; saturated if the clamp changed it (R110, R112). -/
def PassLine.clampTo (l : PassLine) (u : Int) : PassLine :=
  { l with value := l.params.clamp u, saturated := l.saturated || l.params.clamp u != u }

/-- The update of one actuator in a CLOSED pass; a disabled one keeps its value (R110). -/
def PassLine.update (l : PassLine) (r : Int) : PassLine :=
  if l.params.enabled then l.clampTo (leakTerm l.params l.value + gainTerm l.params r) else l

/-- The re-clamp of one actuator after the pair pass (R112). -/
def PassLine.reclamp (l : PassLine) : PassLine :=
  if l.params.enabled then l.clampTo l.value else l

/-- The values of the higher and the lower member of a pair after it is taken, D′ being 256 × D (R111). -/
def pairMove (hEnabled lEnabled : Bool) (h l d : Int) : Int × Int :=
  if h - l ≤ d then (h, l)
  else
    match hEnabled, lEnabled with
    | true, true => ((h + l - d) / 2 + d, (h + l - d) / 2)
    | true, false => (l + d, l)
    | false, true => (h, h - d)
    | false, false => (h, l)

/-- One pair taken: the lines after it and the adjustments so far (R111). A pair with a member at or beyond
A is skipped. -/
def takePair (acc : List PassLine × Nat) (p : ActuatorPair) : List PassLine × Nat :=
  match acc.1[p.first]?, acc.1[p.second]? with
  | some f, some g =>
    let d : Int := 256 * p.maxDiff
    let swap := decide (f.value < g.value)
    let hi := if swap then g else f
    let lo := if swap then f else g
    let moved := pairMove hi.params.enabled lo.params.enabled hi.value lo.value d
    let f' := if swap then moved.2 else moved.1
    let g' := if swap then moved.1 else moved.2
    if f' = f.value ∧ g' = g.value then acc
    else
      ((acc.1.set p.first { f with value := f' }).set p.second { g with value := g' }, acc.2 + 1)
  | _, _ => acc

/-- The pairs in a pair list, in slot order (The pair lists). -/
def PairList.pairs (l : PairList) : List ActuatorPair := l.slots.toList.take l.count

/-- The lines of a pass at its start: actuators 0 to A − 1 with the pass values (R109). -/
def passLines (active : List ActiveRecord) (values : List Int) : List PassLine :=
  List.zipWith (fun r v => ⟨r.params, v, false⟩) active values

/-- A CLOSED pass: updates, pair pass, re-clamp; the lines and the pair adjustment count (R110 to R112). -/
def closedPass (lines : List PassLine) (residuals : List Int) (pairs : List ActuatorPair) :
    List PassLine × Nat :=
  let updated := List.zipWith PassLine.update lines residuals
  let paired := pairs.foldl takePair (updated, 0)
  (paired.1.map PassLine.reclamp, paired.2)

/-- The results of a pass by the loop state sampled at its start: a HELD or OPEN pass changes nothing
(R109). -/
def Tfu.passResult (t : Tfu) (p : FilterPass) : List PassLine × Nat :=
  let lines := passLines t.active.toList p.values
  if p.loop = .closed then closedPass lines p.residuals t.activePairs.pairs else (lines, 0)

/-- The saturated count of a pass (R112). -/
def saturatedCount (lines : List PassLine) : Nat := lines.countP (·.saturated)

/-- One active record at the end of a pass (R113 step 1). -/
def endRecord (lines : List PassLine) (i : Nat) (r : ActiveRecord) : ActiveRecord :=
  match lines[i]? with
  | some l => { r with acc := l.value, saturations := if l.saturated then r.saturations + 1 else r.saturations }
  | none => r

/-- The pass values written into the active accumulators (R113 step 1). -/
def Tfu.writeBack (t : Tfu) (lines : List PassLine) : Tfu := { t with active := mapTable (endRecord lines) t.active }

/-- The command word of an accumulator: divided by 256, rounded (R115). -/
def commandWord (acc : Int) : Word := BitVec.ofInt 16 (roundDiv acc 256)

/-- The command words of actuators 0 to A − 1 (R116). -/
def Tfu.commandWords (t : Tfu) (actuators : Nat) : List Word :=
  (t.active.toList.take actuators).map fun r => commandWord r.acc

/-! ### The outbound slice queue (R147) -/

/-- A slice joins the queue: queued slices with its tag or a later one are discarded first, and the oldest
if there are then three; each discard is an overrun (R147). -/
def Drp.join (d : Drp) (x : Slice) : Drp :=
  let kept := d.queue.filter fun q => frameBefore q.tag x.tag
  let joined := kept ++ [x]
  let final := if joined.length > 2 then joined.drop 1 else joined
  { d with
    queue := final
    counts := { d.counts with
      overruns := addCount d.counts.overruns (d.queue.length + 1 - final.length) } }

/-! ### Presets (R117) -/

/-- One active record after a preset of stroke values from `first` on: 256 times its value, clamped. -/
def presetRecord (first : Nat) (values : List Word) (i : Nat) (r : ActiveRecord) : ActiveRecord :=
  if first ≤ i then
    match values[i - first]? with
    | some v => { r with acc := r.params.clamp (256 * v.toInt) }
    | none => r
  else r

/-- How many values of a preset the clamp changes (R117). -/
def presetClamps (active : List ActiveRecord) (values : List Word) : Nat :=
  (List.zipWith (fun (r : ActiveRecord) (v : Word) => r.params.clamp (256 * v.toInt) != 256 * v.toInt)
    active values).count true

/-- A preset made, with its reply (R117). -/
def State.makePreset (s : State) (first : Nat) (values : List Word) : State :=
  (s.updTfu fun t => { t with active := mapTable (presetRecord first values) t.active }).complete .ok
    (word1 (presetClamps (s.tfu.active.toList.drop first) values))

end Sys2Proof.Machine
end

