-- ==== Sys2Proof/Machine/Engine.lean ====
section
/-! DEFINITION. The reconstruction engine's shared operations: attach, taking blocks, the dot product, forming
and offering residuals, memory errors, abandoning, and what its entry to IDLE sets off (R84 to R99), with
the bank swap at an attach (R80) and the waiting burst of the engine (R90). -/

namespace Sys2Proof.Machine

/-! ### Arithmetic (R90, R93) -/

/-- A slope as the engine takes it: the invalid-slope marker is 0 (R90). -/
def slopeValue (x : Word) : Int := if x = invalidSlope then 0 else x.toInt

/-- The sum over the slots of x(j) × m(j) (R90). -/
def dotProduct (slopes coefficients : List Word) : Int :=
  (List.zipWith (fun x m => slopeValue x * m.toInt) slopes coefficients).sum

/-- The ends of a residual's range (R93). -/
def residualMin : Int := -2147483648
def residualMax : Int := 2147483647

/-- A row sum divided by 2 to the power of the shift, rounded, before saturation (R93). -/
def residualQuotient (shift : Nat) (p : Int) : Int := roundDiv p (2 ^ shift)

/-- The residual of a row sum: saturated to 32 bits (R93). -/
def residualOf (shift : Nat) (p : Int) : Int := clampInt residualMin residualMax (residualQuotient shift p)

/-- A quotient outside the residual's range (R93). -/
def residualSaturates (shift : Nat) (p : Int) : Bool := residualOf shift p != residualQuotient shift p

/-! ### Bursts of the engine (R90) -/

/-- The engine presents the next row of its current block, if there is one (R90, R67). -/
def State.presentRow (s : State) : State :=
  match s.rce.state, s.rce.block, s.rce.bank with
  | .busy, some g, some k =>
    if s.rce.nextRow < s.actuators then
      let b : Burst :=
        { who := .engine, place := rowPlace (s.entry k g).base s.rce.nextRow, write := none, bank := k,
          block := g, row := s.rce.nextRow, dropped := false }
      (s.updMmc fun m => { m with engineWaits := some b }).updRce fun e => { e with nextRow := e.nextRow + 1 }
    else s
  | _, _, _ => s

/-! ### IDLE -/

/-- The engine's report of IDLE completes a SET_LOOP that waits for it (R98, R123). -/
def State.reportIdle (s : State) : State :=
  if s.rce.state = .idle ∧ s.lsv.stopInProgress then
    match s.clp.inExec with
    | some ⟨_, .engine found⟩ =>
      (s.updLsv fun v => { v with stopInProgress := false }).complete .ok
        (word1 found.number ++ word1 LoopState.stopped.number)
    | _ => s
  else s

/-- The engine lets go of its cycle and is IDLE: the buffer's engine relation becomes DONE if it is still
ATTACHED, and the buffer may return to FREE (R95, R96, R97, R45). -/
def State.engineLetsGo (s : State) : State :=
  let t := s.updRce fun e =>
    { e with state := .idle, attached := none, bank := none, shift := none, attachedAt := none,
             block := none, nextRow := 0, residuals := [] }
  match s.rce.attached with
  | some x =>
    if (s.desc x).relation = .attached then
      (t.updDesc x fun d => { d with relation := .done }).freeIfReleased x
    else t
  | none => t

/-- The buffer an engine that is IDLE takes on entering IDLE: in BATCH order under the IMMEDIATE trigger the
oldest that awaits computation (R56); in STREAM order an OPEN one not yet taken, else the oldest that
awaits (R86). -/
def State.idleChoice (s : State) : Option BufferId :=
  if s.rce.state = .idle ∧ s.running then
    match s.ctu.order with
    | .batch => if s.ctu.trigger = .immediate then s.oldestWaiting else none
    | .stream =>
      match s.openToTake with
      | some x => some x
      | none => s.oldestWaiting
  else none

/-! ### Blocks (R88 to R93) -/

/-- On entering DELIVERING the engine forms the residuals of actuators 0 to A − 1 and counts those it
saturates (R93). -/
def State.formResiduals (s : State) : State :=
  let sums := s.rce.sums.toList.take s.actuators
  let k := s.rce.shift.getD 0
  (s.updRce fun e =>
    { e with state := .delivering, block := none, residuals := sums.map (residualOf k) }).updCounts fun c =>
      { c with residualSaturations := addCount c.residualSaturations (sums.countP (residualSaturates k)) }

/-- The engine takes blocks from the head of the ready queue of buffer `x`: it counts and finishes absent
ones at once, and stays BUSY on the first present one, presenting its row 0. On an empty queue it enters
WAITING if the buffer is OPEN, else DELIVERING (R88, R89, R92). -/
def State.takeBlocks (x : BufferId) : List Nat → State → State
  | [], s =>
    let t := s.updDesc x fun d => { d with ready := [] }
    if (t.desc x).state = .opened then t.updRce fun e => { e with state := .waiting, block := none }
    else t.formResiduals
  | g :: rest, s =>
    if (match s.rce.bank with | some k => (s.entry k g).present | none => false) then
      ((s.updDesc x fun d => { d with ready := rest }).updRce fun e =>
        { e with state := .busy, block := some g, nextRow := 0 }).presentRow
    else
      State.takeBlocks x rest (s.updCounts fun c => { c with absentBlocks := c.absentBlocks + 1 })

/-- The engine goes on with its attached buffer (R88, R92). -/
def State.continueCycle (s : State) : State :=
  match s.rce.attached with
  | some x => State.takeBlocks x (s.desc x).ready s
  | none => s

/-! ### Attach (R80, R87) -/

/-- A pending swap takes effect: the target becomes the active bank (R80, R81). The tag is that of the
buffer being attached, none for the event STOP. -/
def State.makeSwap (s : State) (tag : Option Word) : State :=
  match s.mmc.swap with
  | some k => (s.updMmc fun m => { m with active := k, swap := none }).raise (.swapDone k tag)
  | none => s

/-- Steps 1 to 6 of R87. -/
def State.beginCycle (s : State) (x : BufferId) : State :=
  let s1 := s.makeSwap (some (s.desc x).tag)
  let s2 := s1.updRce fun e =>
    { e with bank := some s1.mmc.active, shift := some (s1.bank s1.mmc.active).shift }
  let s3 := s2.filterAttach (s.desc x).tag
  let s4 := s3.updRce fun e =>
    { e with
      attachedAt := some s3.ctu.timebase
      sums := mapTable (fun i p => if i < s3.actuators then 0 else p) e.sums
      block := none
      nextRow := 0
      residuals := []
      attached := some x }
  s4.updDesc x fun d => { d with relation := .attached }

/-- Attach: steps 1 to 7 of R87. -/
def State.attach (s : State) (x : BufferId) : State := (s.beginCycle x).continueCycle

/-! ### The offer (R94, R109) -/

/-- The TFU takes the offer: a filter pass starts on it, the buffer's engine relation becomes DONE, the
engine is IDLE (R94, R109). -/
def State.takeOffer (s : State) (x : BufferId) : State :=
  let p : FilterPass :=
    { buffer := x, tag := (s.desc x).tag, bank := s.rce.bank.getD s.mmc.active,
      attachedAt := s.rce.attachedAt.getD s.ctu.timebase, loop := s.lsv.loop,
      residuals := s.rce.residuals,
      values := (s.tfu.active.toList.take s.actuators).map (·.acc) }
  (s.updTfu fun t => { t with pass := some p }).engineLetsGo

/-- An engine that has entered IDLE attaches again if there is a buffer for it (R56, R86, R94). -/
def State.attachOnIdle (s : State) : State :=
  match s.idleChoice with
  | some x => s.attach x
  | none => s

/-- In DELIVERING the engine offers its residuals; the TFU takes them when no pass is running, and the
engine's entry to IDLE then takes effect (R94). -/
def State.offer (s : State) : State :=
  match s.rce.state, s.rce.attached, s.tfu.pass with
  | .delivering, some x, none => (s.takeOffer x).attachOnIdle
  | _, _, _ => s

/-- What the engine's entry to IDLE sets off: the report to the supervisor, and an attach where there is a
buffer to take, with the offer of a cycle that needs no DRAM (R56, R86, R94, R98). -/
def State.enterIdle (s : State) : State := s.reportIdle.attachOnIdle.offer

/-- A trigger, tick or opening attaches the engine to a buffer (R56, R57, R86). -/
def State.attachNow (s : State) (x : BufferId) : State := (s.attach x).offer

/-! ### Ending a cycle early (R95, R96) -/

/-- A burst of the engine's that is being transferred is dropped: it ends, and its data is not used (R68). -/
def State.dropEngineBurst (s : State) : State :=
  s.updMmc fun m =>
    { m with
      engineWaits := none
      port := m.port.map fun p => if p.who = .engine then { p with dropped := true } else p }

/-- The engine stops processing: its waiting burst is withdrawn; while a granted one still transfers it is
DRAINING, otherwise it lets go of its cycle at once (R95, R96). -/
def State.engineStops (s : State) : State :=
  let t := s.dropEngineBurst
  if t.enginePort then t.updRce fun e => { e with state := .draining } else t.engineLetsGo

/-- The engine abandons its cycle, according to its state (R96). -/
def State.abandon (s : State) : State :=
  match s.rce.state with
  | .idle | .draining => s
  | .waiting | .delivering => s.engineLetsGo
  | .busy => s.engineStops

/-- The report on a skipped cycle: the bank and attach timestamp if the engine is attached to the buffer
(R158). -/
def State.skipReport (s : State) (x : BufferId) (cause : SkipCause) : CycleReport :=
  let attached := (s.desc x).relation == .attached
  { outcome := .skipped, skip := some cause, loop := none,
    bank := if attached then s.rce.bank else none,
    attachedAt := if attached then s.rce.attachedAt else none,
    endedAt := none, saturated := 0, adjustments := 0, residuals := [], commands := none }

/-- A buffer with an outcome that is not OPEN enters RETIRING (R45). -/
def State.retire (s : State) (x : BufferId) : State :=
  if (s.desc x).state = .closed then s.updDesc x fun d => { d with state := .retiring } else s

/-- An uncorrectable burst for the current block ends the cycle: SKIPPED with cause MEMORY, the rest of the
ready queue discarded (R95). -/
def State.memorySkip (s : State) (x : BufferId) : State :=
  let t := (s.giveSkip x .memory (s.skipReport x .memory)).updDesc x fun d => { d with ready := [] }
  let u := (t.retire x).engineStops
  if u.rce.state = .idle then u.enterIdle else u

/-- A good row: its dot product with the slopes of the current block is added to the row sum; after row
A − 1 the block is finished and the engine goes on (R90, R92). -/
def State.addRow (s : State) (x : BufferId) (g row : Nat) (coefficients : List Word) : State :=
  let slopes := slotSlopes (s.buffer x).slots g
  let t := s.updRce fun e =>
    { e with sums := mapTable (fun i p => if i = row then p + dotProduct slopes coefficients else p) e.sums }
  if row + 1 = s.actuators then (t.updRce fun e => { e with block := none }).continueCycle.offer else t

end Sys2Proof.Machine
end

