-- ==== Sys2Proof/Machine/Assembly.lean ====
section
/-! DEFINITION. The slope assembly unit's shared operations: outcomes returned to the receivers with their
frame records, matching a packet, opening, storing, finishing and closing a buffer (R17 to R21, R30 to
R47). -/

namespace Sys2Proof.Machine

/-! ### Frame records (R18 to R21) -/

/-- The five outcomes of a delivered packet (R18). -/
inductive PacketOutcome
  | stored
  | duplicate
  | stale
  | noBuffer
  | notStored
  deriving DecidableEq, Repr

/-- A frame record when it opens: every count zero and every flag clear (R19). -/
def FrameRecord.fresh (frame : Word) : FrameRecord :=
  { frame := frame, good := 0, crcErrors := 0, stored := 0, endSeen := false, duplicate := false,
    stale := false, noBuffer := false, notStored := false, aborted := false, syncLost := false }

/-- A record offered to the frame record queue: it joins the tail of fewer than 16, else it is dropped and
the overflow flag is set (R21). -/
def LinkState.offerRecord (x : LinkState) (r : FrameRecord) : LinkState :=
  if x.queue.length < 16 then { x with queue := x.queue ++ [r] } else { x with overflow := true }

/-- The current record is closed: it is offered to the queue at once when no outcome is owed, else it
becomes a closing record (R20). -/
def LinkState.closeRecord (x : LinkState) : LinkState :=
  match x.current with
  | some r =>
    if r.owed = 0 then LinkState.offerRecord { x with current := none } r.record
    else { x with current := none, closing := x.closing ++ [r] }
  | none => x

/-- A current record with the SYNC_LOST flag set. -/
def OwedRecord.markLost (r : OwedRecord) : OwedRecord := ⟨{ r.record with syncLost := true }, r.owed⟩

/-- The current record closed with SYNC_LOST (R7, R14, R20). -/
def LinkState.closeLost (x : LinkState) : LinkState :=
  LinkState.closeRecord { x with current := x.current.map OwedRecord.markLost }

/-- An outcome applied to the record its packet was counted in (R19), END_SEEN with it (R20). -/
def FrameRecord.take (r : FrameRecord) (o : PacketOutcome) (last : Bool) : FrameRecord :=
  let q :=
    match o with
    | .stored => { r with stored := satSucc r.stored }
    | .duplicate => { r with duplicate := true }
    | .stale => { r with stale := true }
    | .noBuffer => { r with noBuffer := true }
    | .notStored => { r with notStored := true }
  if last then { q with endSeen := true } else q

/-- The record of the link's oldest packet takes its outcome. Outcomes return in the order of delivery, so
it is the oldest closing record if there is one, else the current one (R18, R20). -/
def LinkState.takeOutcome (x : LinkState) (o : PacketOutcome) (last : Bool) : LinkState :=
  match x.closing with
  | r :: rest =>
    let q : OwedRecord := ⟨r.record.take o last, r.owed - 1⟩
    if q.owed = 0 then LinkState.offerRecord { x with closing := rest } q.record else { x with closing := q :: rest }
  | [] =>
    match x.current with
    | some r =>
      let y := { x with current := some ⟨r.record.take o last, r.owed - 1⟩ }
      if last then y.closeRecord else y
    | none => x

/-- A packet buffer made FREE. -/
def LinkState.freePacket (x : LinkState) (k : PacketSlot) : LinkState :=
  match k with
  | .zero => { x with buffer0 := .empty }
  | .one => { x with buffer1 := .empty }

/-- The outcome of the link's oldest delivered packet returns: its buffer is FREE and its record is brought
up to date (R10, R18). -/
def LinkState.returnOutcome (x : LinkState) (o : PacketOutcome) : LinkState :=
  match x.order with
  | k :: rest => ({ x with order := rest }.freePacket k).takeOutcome o (packetEnd (x.packet k).words)
  | [] => x

/-- An outcome returned to a link. -/
def State.returnOutcome (s : State) (l : Link) (o : PacketOutcome) : State := s.updLink l (·.returnOutcome o)

/-! ### Closing (R42, R43, R45) -/

/-- A buffer's closure as the SAU, the CTU and the supervisor record it (R42). -/
def State.markClosed (s : State) (x : BufferId) (cause : ClosureCause) : State :=
  let tag := (s.desc x).tag
  let t := s.updDesc x fun d => { d with state := .closed, cause := some cause, closedAt := s.ctu.timebase }
  let u := t.updSau fun a =>
    { a with lastClosed := some tag, closeOrder := a.closeOrder.filter (· != x) ++ [x] }
  (u.updCtu fun c => { c with deadlineAt := none }).updCounts (countClosure cause)

/-- A cycle skipped for MISSING at its closure (R43, R97). -/
def State.skipMissing (s : State) (x : BufferId) : State :=
  let t := (s.giveSkip x .missing (s.skipReport x .missing)).retire x
  if (s.desc x).relation = .attached then
    let u := t.abandon
    if u.rce.state = .idle then u.enterIdle else u
  else t.freeIfReleased x

/-- A closed buffer handed on: in BATCH order under the IMMEDIATE trigger an IDLE engine attaches to the
oldest waiting one; in STREAM order a WAITING engine goes on with it (R42, R56, R92). -/
def State.handOn (s : State) (x : BufferId) : State :=
  match s.ctu.order with
  | .batch => s.attachOnIdle.offer
  | .stream =>
    if s.rce.state = .waiting ∧ s.rce.attached = some x then s.continueCycle.offer else s

/-- A closure with its cause: every step of R42, the missing-data check of R43 unless the cycle already
has its outcome (R44). -/
def State.closeBuffer (s : State) (x : BufferId) (cause : ClosureCause) : State :=
  let t := s.markClosed x cause
  if (t.desc x).outcome.isSome then (t.retire x).freeIfReleased x
  else if t.missingEssential x then t.skipMissing x
  else t.handOn x

/-- Finishing evaluated for an OPEN buffer: it closes when every enabled sensor is finished (R40). -/
def State.evaluateFinishing (s : State) (x : BufferId) : State :=
  if (s.desc x).state = .opened ∧ s.allFinished x then
    s.closeBuffer x (if s.allComplete x then .complete else .ended)
  else s

/-- A deadline expiry delivered to the SAU: it is held while a copy is in progress, else it closes the OPEN
buffer, if there is one (R32, R41). -/
def State.takeExpiry (s : State) : State :=
  if s.sau.copy.isSome then s.updSau fun u => { u with heldExpiry := true }
  else
    match s.openBuffer with
    | some x => s.closeBuffer x .deadline
    | none => s

/-! ### Opening (R38) -/

/-- A buffer opens with a tag; in STREAM order an IDLE engine attaches to it (R38, R53, R86). -/
def State.openWith (s : State) (x : BufferId) (tag : Word) : State :=
  let t := s.updDesc x fun _ =>
    { Descriptor.freed tag s.ctu.timebase 0 with state := .opened }
  let u := (t.updSau fun a => { a with lastOpened := x, closeOrder := a.closeOrder.filter (· != x) }).updCtu
    fun c => { c with deadlineAt := some (c.timebase + microseconds c.deadline) }
  let v := u.updCounts fun c => { c with opened := c.opened + 1 }
  if v.ctu.order = .stream ∧ v.rce.state = .idle then v.attachNow x else v

/-! ### Matching (R33 to R37) -/

/-- The copy of the granted packet into a buffer begins (R31). -/
def State.beginCopy (s : State) (l : Link) (x : BufferId) (ws : List Word) : State :=
  s.updSau fun u => { u with copy := some ⟨l, x, (s.link l).entry.base + packetBlock ws⟩ }

/-- A packet matched while no buffer is OPEN: STALE, NO_BUFFER, or it opens a buffer (R36, R37). -/
def State.matchNew (s : State) (l : Link) (ws : List Word) : State :=
  if (match s.sau.lastClosed with | some t => !frameAfter (packetFrame ws) t | none => false) then
    s.returnOutcome l .stale
  else
    match s.freeBuffer with
    | some x => (s.openWith x (packetFrame ws)).beginCopy l x ws
    | none => s.returnOutcome l .noBuffer

/-- A packet whose frame is the OPEN buffer's: DUPLICATE, or stored (R34). -/
def State.matchSame (s : State) (l : Link) (x : BufferId) (ws : List Word) : State :=
  if ((s.desc x).sensors[l]).accepted.getLsbD (packetBlock ws) then
    let t := s.returnOutcome l .duplicate
    if packetEnd ws then
      (t.updDesc x fun d =>
        { d with sensors := d.sensors.set l.val { d.sensors[l] with endSeen := true } l.isLt }).evaluateFinishing x
    else t
  else s.beginCopy l x ws

/-- A packet the sensor map no longer covers at its grant (R33). -/
def LinkState.uncovered (x : LinkState) (ws : List Word) : Bool :=
  !x.entry.enabled || x.entry.blocks ≤ packetBlock ws ||
    packetSlopes ws != x.entry.expected (packetBlock ws)

/-- The matching decision taken at the grant (R33 to R37). An overtaken buffer that is skipped for MISSING and
FREE again when its closure ends is itself opened for the packet where the other is not FREE, as R37, R45
and R29 have it, though R35 names NO_BUFFER for a buffer that is not FREE (DESIGN CHOICE, log entry 35). -/
def State.matchPacket (s : State) (l : Link) (ws : List Word) : State :=
  if s.running = false ∨ (s.link l).uncovered ws then s.returnOutcome l .notStored
  else
    match s.openBuffer with
    | some x =>
      if packetFrame ws = (s.desc x).tag then s.matchSame l x ws
      else if frameAfter (packetFrame ws) (s.desc x).tag then
        (s.closeBuffer x .overtaken).matchNew l ws
      else s.returnOutcome l .stale
    | none => s.matchNew l ws

/-- The links in the order the arbiter looks at them: upward from the rotation point, wrapping (R30). -/
def arbiterOrder (rotation : Link) : List Link :=
  [rotation + 1, rotation + 2, rotation + 3, rotation + 4, rotation + 5, rotation + 6, rotation + 7, rotation]

/-- The copy arbiter's grant: the first presenting link after the rotation point (R30). -/
def State.grantCopy (s : State) : State :=
  if s.sau.copy.isSome then s
  else
    match (arbiterOrder s.sau.rotation).find? fun l => (s.link l).presented.isSome with
    | some l =>
      match (s.link l).presented with
      | some ws => (s.updSau fun u => { u with rotation := l }).matchPacket l ws
      | none => s
    | none => s

/-! ### Storing (R31) -/

/-- A sensor's status when a block of it is stored (R31). -/
def SensorStatus.store (x : SensorStatus) (block blocks : Nat) (last : Bool) : SensorStatus :=
  let accepted := x.accepted ||| (1#16 <<< block)
  { accepted := accepted, endSeen := x.endSeen || last, complete := x.complete || allAccepted accepted blocks }

/-- The slopes of a copied block: the packet's, then 0 up to the 256th (R31). -/
def blockSlopes (payload : List Word) : List Word := (payload ++ List.replicate 256 0).take 256

/-- The block of an ended copy is stored into its buffer (R31). -/
def State.storeBlock (s : State) (c : Copy) (ws : List Word) : State :=
  s.updBuffer c.buffer fun y =>
    { slots := storeSlot c.global (blockSlopes (packetPayload ws)) y.slots
      desc := { y.desc with
        ready := y.desc.ready ++ [c.global]
        markers := y.desc.markers + markerCount (packetPayload ws)
        sensors := y.desc.sensors.set c.link.val
          (y.desc.sensors[c.link].store (packetBlock ws) (s.link c.link).entry.blocks (packetEnd ws))
          c.link.isLt } }

/-- The end of a copy: the block is stored, STORED is returned, a WAITING engine takes the block, finishing
is evaluated, then a held expiry is taken (R31, R32, R40, R88). -/
def State.endCopy (s : State) : State :=
  match s.sau.copy with
  | none => s
  | some c =>
    let ws := ((s.link c.link).presented).getD []
    let t := ((s.storeBlock c ws).updSau fun u => { u with copy := none }).returnOutcome c.link .stored
    let u := if t.rce.state = .waiting ∧ t.rce.attached = some c.buffer then t.continueCycle else t
    let v := u.evaluateFinishing c.buffer
    if v.sau.heldExpiry then (v.updSau fun a => { a with heldExpiry := false }).takeExpiry else v

end Sys2Proof.Machine
end

