-- ==== Sys2Proof/Machine/SensorLinks.lean ====
section
/-! DEFINITION. The sensor link receivers: what each code does in each receiver state (R4 to R11), the checks
at CLOSE (R15, R16), and delivery (R17). -/

namespace Sys2Proof.Machine

/-! ### Checks of a packet as its words arrive (R2, R3) -/

/-- One more data word: counted and taken into the CRC (R2, R3). -/
def LineCheck.take (x : LineCheck) (w : Word) : LineCheck :=
  { count := x.count + 1, crc := crcWord x.crc w, prior := x.crc, latest := w }

/-- The CRC over every word but the last equals the last (R3). -/
def LineCheck.crcPasses (x : LineCheck) : Bool := x.prior == x.latest

/-! ### The receiver (R5 to R8) -/

/-- A packet buffer's contents replaced. -/
def LinkState.setPacket (x : LinkState) (k : PacketSlot) (p : PacketBuffer) : LinkState :=
  match k with
  | .zero => { x with buffer0 := p }
  | .one => { x with buffer1 := p }

/-- The first IDLE in HUNT brings SYNC and the LINK_STATE notice; in SYNC it changes nothing, in RECEIVING
it is fill, in DISABLED it is ignored (R2, R4, R5, R6, R8, R24). -/
def State.sensorIdle (s : State) (l : Link) : State :=
  match (s.link l).receiver with
  | .hunt => (s.updLink l fun x => { x with receiver := .sync }).raise (.linkState l none)
  | .sync | .receiving | .disabled => s

/-- A packet begins: into a FREE packet buffer, or discarded as an overrun (R6, R10, R11). -/
def LinkState.beginPacket (x : LinkState) : LinkState :=
  match x.freeSlot with
  | some k => { x.setPacket k ⟨.filling, []⟩ with receiver := .receiving, storing := some k, line := .start }
  | none =>
    { x with receiver := .receiving, storing := none, line := .start,
             counts := { x.counts with overruns := x.counts.overruns + 1 } }

/-- OPEN: it begins a packet in SYNC; in RECEIVING it cuts the packet in progress short, reusing the buffer
of one being stored; elsewhere it is ignored (R4, R5, R6, R8). -/
def LinkState.takeOpen (x : LinkState) : LinkState :=
  match x.receiver, x.storing with
  | .sync, _ => x.beginPacket
  | .receiving, some k =>
    { x.setPacket k ⟨.filling, []⟩ with
      line := .start, counts := { x.counts with framing := x.counts.framing + 1 } }
  | .receiving, none => x.beginPacket
  | .hunt, _ | .disabled, _ => x

/-- A data word: in RECEIVING it is counted and taken into the CRC, and stored while there is room; in SYNC
it is a stray code; elsewhere it is ignored (R4, R5, R6, R8, R10). -/
def LinkState.takeWord (x : LinkState) (w : Word) : LinkState :=
  match x.receiver, x.storing with
  | .receiving, some k =>
    let p := x.packet k
    let y := if p.words.length < 261 then x.setPacket k { p with words := p.words ++ [w] } else x
    { y with line := y.line.take w }
  | .receiving, none => x
  | .sync, _ => { x with counts := { x.counts with framing := x.counts.framing + 1 } }
  | .hunt, _ | .disabled, _ => x

/-! ### CLOSE (R15 to R17) -/

/-- Which check of R15 a packet fails first. -/
inductive PacketFault
  | framing
  | crc
  | misrouted
  | outOfWindow
  | lengthError
  deriving DecidableEq, Repr

/-- The checks at CLOSE, in the order of R15; none for a good packet. -/
def packetFault (link : Nat) (e : MapEntry) (line : LineCheck) (ws : List Word) : Option PacketFault :=
  if line.count < 5 then some .framing
  else if line.crcPasses = false then some .crc
  else if 261 < line.count ∨ line.count ≠ packetSlopes ws + 5 then some .framing
  else if packetSensor ws ≠ link then some .misrouted
  else if e.blocks ≤ packetBlock ws then some .outOfWindow
  else if packetSlopes ws ≠ e.expected (packetBlock ws) then some .lengthError
  else none

/-- The count of a failed check rises (R15, R23). -/
def countFault (f : PacketFault) (c : LinkCounts) : LinkCounts :=
  match f with
  | .framing => { c with framing := c.framing + 1 }
  | .crc => { c with crc := c.crc + 1 }
  | .misrouted => { c with misrouted := c.misrouted + 1 }
  | .outOfWindow => { c with outOfWindow := c.outOfWindow + 1 }
  | .lengthError => { c with lengthErrors := c.lengthErrors + 1 }

/-- A packet that fails a check is discarded: its buffer is FREE, that check's count rises, and a CRC error
counts in a current record (R15). -/
def LinkState.rejectPacket (x : LinkState) (k : PacketSlot) (f : PacketFault) : LinkState :=
  let y := { x.freePacket k with receiver := .sync, storing := none, counts := countFault f x.counts }
  match f, y.current with
  | .crc, some r =>
    { y with current := some { r with record := { r.record with crcErrors := satSucc r.record.crcErrors } } }
  | _, _ => y

/-- A good packet counted in the current record, one being opened if none is current (R17, R19). -/
def LinkState.countInRecord (x : LinkState) (frame : Word) : LinkState :=
  match x.current with
  | some r =>
    { x with current := some ⟨{ r.record with good := satSucc r.record.good }, r.owed + 1⟩ }
  | none => { x with current := some ⟨{ FrameRecord.fresh frame with good := 1 }, 1⟩ }

/-- The current record is of another frame (R17, R20). -/
def LinkState.otherFrame (x : LinkState) (frame : Word) : Bool :=
  match x.current with
  | some r => r.record.frame != frame
  | none => false

/-- A good packet delivered: its buffer is DELIVERED behind any older one, the counters rise, the records
are brought up to date (R17, R19, R20). -/
def LinkState.deliver (x : LinkState) (k : PacketSlot) : LinkState :=
  let p := x.packet k
  let y := { x.setPacket k ⟨.delivered, p.words⟩ with
    receiver := .sync
    storing := none
    order := x.order ++ [k]
    counts := { x.counts with
      good := x.counts.good + 1
      markers := addCount x.counts.markers (markerCount (packetPayload p.words)) } }
  (if y.otherFrame (packetFrame p.words) then y.closeRecord else y).countInRecord (packetFrame p.words)

/-- CLOSE: it ends a packet in RECEIVING, a stored one being checked; in SYNC it is a stray code; elsewhere
it is ignored (R4, R5, R6, R8, R15). -/
def LinkState.takeClose (x : LinkState) (link : Nat) : LinkState :=
  match x.receiver, x.storing with
  | .receiving, some k =>
    match packetFault link x.entry x.line (x.packet k).words with
    | some f => x.rejectPacket k f
    | none => x.deliver k
  | .receiving, none => { x with receiver := .sync }
  | .sync, _ => { x with counts := { x.counts with framing := x.counts.framing + 1 } }
  | .hunt, _ | .disabled, _ => x

/-! ### Loss of line order (R7) -/

/-- A current record with the ABORTED flag set where the cause was ABORT (R7, R19). -/
def OwedRecord.markAborted (cause : LossCause) (r : OwedRecord) : OwedRecord :=
  ⟨{ r.record with aborted := r.record.aborted || cause == .abort }, r.owed⟩

/-- The link's side of a loss of line order (R7, R19, R20): the ABORTED flag where ABORT lost a packet that
was being stored. -/
def LinkState.loseLine (x : LinkState) (cause : LossCause) : LinkState :=
  let c := { x.counts with
    syncLosses := x.counts.syncLosses + 1
    aborts := if cause = .abort then x.counts.aborts + 1 else x.counts.aborts }
  let y := { x with receiver := .hunt, storing := none, counts := c }
  match x.receiver, x.storing with
  | .receiving, some k =>
    let z := y.freePacket k
    LinkState.closeLost { z with current := z.current.map (OwedRecord.markAborted cause) }
  | _, _ => y.closeLost

/-- ABORT or a code violation: a loss of line order in SYNC and RECEIVING, ignored elsewhere (R1, R4, R5,
R7, R24). -/
def State.sensorLoss (s : State) (l : Link) (cause : LossCause) : State :=
  match (s.link l).receiver with
  | .sync | .receiving => (s.updLink l (·.loseLine cause)).raise (.linkState l (some cause))
  | .hunt | .disabled => s

end Sys2Proof.Machine
end

