-- ==== Sys2Proof/Machine/ControlLink.lean ====
section
/-! DEFINITION. The control-link receiver, the request queue (R166 to R168), and the CLP's own requests that
report or set a few words: IDENTIFY, SET_NOTICES, RESET. -/

namespace Sys2Proof.Machine

/-! ### The receiver (R167) -/

/-- An IDLE: in HUNT it brings SYNC, in RECEIVING it is fill (R2, R167). -/
def Clp.takeIdle (c : Clp) : Clp := if c.receiver = .hunt then { c with receiver := .sync } else c

/-- The receive error count rises by one (R167, R176). -/
def Clp.countError (c : Clp) : Clp := { c with receiveErrors := c.receiveErrors + 1 }

/-- OPEN: a message is received from its start; one being received is cut short and counted (R167). -/
def Clp.takeOpen (c : Clp) : Clp :=
  match c.receiver with
  | .sync => { c with receiver := .receiving, line := .start, buffer := [] }
  | .receiving => Clp.countError { c with line := .start, buffer := [] }
  | .hunt | .disabled => c

/-- A data word: stored up to the 2,053rd, counted and taken into the CRC; stray in SYNC (R167). -/
def Clp.takeWord (c : Clp) (w : Word) : Clp :=
  match c.receiver with
  | .receiving =>
    { c with line := c.line.take w, buffer := if c.buffer.length < 2053 then c.buffer ++ [w] else c.buffer }
  | .sync => c.countError
  | .hunt | .disabled => c

/-- ABORT or a code violation in SYNC or RECEIVING: HUNT, the message lost, the sync loss count up (R167). -/
def Clp.loseLine (c : Clp) : Clp :=
  match c.receiver with
  | .sync | .receiving => { c with receiver := .hunt, buffer := [], syncLosses := c.syncLosses + 1 }
  | .hunt | .disabled => c

/-- The checks of a message at its CLOSE, in the order of R167: word count at least 5, CRC, word count the
length field plus 5 and at most 2,053, kind REQUEST. -/
def goodRequest (line : LineCheck) (ws : List Word) : Bool :=
  5 ≤ line.count && line.crcPasses && line.count == (packetWord ws 3).toNat + 5 && line.count ≤ 2053 &&
    (packetWord ws 0).toNat / 16384 == 0

/-- The request a good message carries: code in bits 7 to 0 of word 0, tag in word 1, then the payload
(R166, R180). -/
def requestOf (ws : List Word) : Request :=
  { code := (packetWord ws 0).toNat % 256, tag := packetWord ws 1, payload := packetPayload ws }

/-- A good request is taken: it joins the request queue, or is answered QUEUE_FULL, or is dropped (R168). -/
def Clp.takeRequest (c : Clp) (r : Request) : Clp :=
  if c.requests.length < 8 then { c with requests := c.requests ++ [r] }
  else if c.replies.length < 16 then
    { c with replies := c.replies ++ [.ready ⟨r.code, r.tag, .queueFull, []⟩], queueFull := c.queueFull + 1 }
  else { c with dropped := c.dropped + 1 }

/-- CLOSE: it ends a message, which is checked and taken or discarded; stray in SYNC (R167, R168). -/
def Clp.takeClose (c : Clp) : Clp :=
  match c.receiver with
  | .receiving =>
    let d := { c with receiver := .sync, buffer := [] }
    if goodRequest c.line c.buffer then d.takeRequest (requestOf c.buffer) else d.countError
  | .sync => c.countError
  | .hunt | .disabled => c

/-! ### Requests of the CLP (R169, R172, R174, R177) -/

/-- IDENTIFY's items (R174). -/
def State.identity (s : State) : List Word :=
  [0x4E4A, 0x1610, 1, 8] ++ word1 1024 ++ word2 131072 ++ word1 2048 ++ word1 s.clp.lastReset.number ++
    word2 s.clp.resetPoint.toNat

/-- IDENTIFY, carried out (R174). -/
def State.identify (payload : List Word) (s : State) : State :=
  match payload with
  | [] => s.complete .ok s.identity
  | _ => s.complete .badRequest []

/-- SET_NOTICES, carried out (R172): the mask replaced, entries of kinds masked off removed. -/
def State.setNotices (payload : List Word) (s : State) : State :=
  match payload with
  | [m] =>
    if 512 ≤ m.toNat then s.complete .invalid []
    else
      let mask := BitVec.ofNat 9 m.toNat
      (s.updClp fun c =>
        { c with mask := mask, notices := c.notices.filter fun n => inMask mask n.payload.kind }).complete .ok []
  | _ => s.complete .badRequest []

/-- RESET, carried out (R177): its reply is filled at once, reset in hand is set, and it stays in
execution. -/
def State.requestReset (payload : List Word) (s : State) : State :=
  match payload with
  | [] => (s.updClp fun c => { c.answer .ok [] with resetInHand := true }).setJob .reset
  | _ => s.complete .badRequest []

end Sys2Proof.Machine
end

