-- ==== Sys2Proof/Machine/DriveRing.lean ====
section
/-! DEFINITION. The drive ring port: what each code received on ring-in does in each ring state, the end of a
send, and the ring's requests (R134 to R148). -/

namespace Sys2Proof.Machine

/-! ### Repeating (R136) -/

/-- A code repeated through the one-code delay: the held code goes out and the new one is held (R136). -/
def State.repeatCode (s : State) (c : Code) : State :=
  (s.sendRing s.drp.holding.toList).updDrp fun d => { d with holding := some c }

/-! ### Train heads (R134, R148) -/

/-- A head word N: queued slices whose tag is before N are discarded and counted stale (R148). -/
def Drp.purge (d : Drp) (n : Word) : Drp :=
  let kept := d.queue.filter fun q => !frameBefore q.tag n
  { d with
    queue := kept
    counts := { d.counts with stale := addCount d.counts.stale (d.queue.length - kept.length) } }

/-- An open head is broken (R134). -/
def Drp.breakHead (d : Drp) : Drp :=
  if d.headOpen then
    { d with headOpen := false, counts := { d.counts with badHeads := d.counts.badHeads + 1 } }
  else d

/-- The reading of train heads: HEAD opens a head and sets N to none, the first data word while a head is
open sets N and purges the queue, IDLE is fill, and any other code breaks an open head (R134). A HEAD in
LISTENING sets head seen (R139). -/
def Drp.readHead (d : Drp) (c : Code) : Drp :=
  match c with
  | .idle => d
  | .head => { d.breakHead with headOpen := true, train := none, headSeen := d.headSeen || d.state == .listening }
  | .data w => if d.headOpen then Drp.purge { d with headOpen := false, train := some w } w else d
  | .openSym | .closeSym | .abort | .mark | .violation => d.breakHead

/-- A code violation is counted (R142). -/
def Drp.countViolation (d : Drp) (c : Code) : Drp :=
  if c = .violation then { d with counts := { d.counts with violations := d.counts.violations + 1 } } else d

/-- A code as it is repeated: a code violation goes out as ABORT (R142). -/
def repeated : Code → Code
  | .violation => .abort
  | c => c

/-! ### Marks (R139, R140, R144) -/

/-- The queued slice a MARK in ON_RING sends: its tag equals N and transmit enable is set (R140). -/
def Drp.sliceToSend (d : Drp) : Option Slice :=
  if d.transmit then
    match d.train with
    | some n => d.queue.find? fun q => q.tag == n
    | none => none
  else none

/-- The decision at a MARK in ON_RING (R140, R141). -/
def State.markOnRing (s : State) : State :=
  match s.drp.sliceToSend with
  | some x =>
    (s.sendRing s.drp.holding.toList).updDrp fun d =>
      { d with
        holding := none
        state := .sending
        queue := d.queue.erase x
        train := none
        leaveRequested := false
        unsent := x.frameCodes
        markSent := false
        counts := { d.counts with sent := d.counts.sent + 1 } }
  | none => (s.repeatCode .mark).updDrp fun d => { d with train := none }

/-- A MARK in LISTENING: it is repeated, and the port enters ON_RING if a HEAD has been seen (R139, R146). -/
def State.markListening (s : State) : State :=
  let t := s.repeatCode .mark
  if s.drp.headSeen then
    (t.updDrp fun d => { d with state := .onRing, train := none, headSeen := false }).raise
      (.ringState s.drp.settings.id true)
  else t

/-- The entry to BYPASS: nothing held, N none, the flags of the other states clear (R134, R137, R144). -/
def Drp.toBypass (d : Drp) : Drp :=
  { d with
    state := .bypass, holding := none, train := none, headOpen := false, headSeen := false,
    markPassed := false, leaveRequested := false, leaveMark := false, unsent := [], markSent := false,
    resetEnding := false }

/-- BYPASS entered through a RING_LEAVE raises RING_STATE, LEFT (R146). -/
def State.leftRing (s : State) : State :=
  (s.updDrp Drp.toBypass).raise (.ringState s.drp.settings.id false)

/-! ### Codes received (R136 to R144) -/

/-- A code received in LISTENING, ON_RING or LEAVING. -/
def State.readingReceive (s : State) (c : Code) : State :=
  let t := s.updDrp fun d => (d.readHead c).countViolation c
  match t.drp.state, c with
  | .onRing, .mark => t.markOnRing
  | .listening, .mark => t.markListening
  | .leaving, .mark => (t.repeatCode .mark).updDrp fun d => { d with train := none, leaveMark := true }
  | .leaving, .idle => if t.drp.leaveMark then (t.sendRing t.drp.holding.toList).leftRing else t.repeatCode .idle
  | _, _ => t.repeatCode (repeated c)

/-- A code received in JOINING: passed through; the first MARK sets mark passed, and the first IDLE after it
is also held, the port entering LISTENING (R136, R137, R138). -/
def State.joiningReceive (s : State) (c : Code) : State :=
  let t := s.sendRing [c]
  if c = .idle ∧ s.drp.markPassed then
    t.updDrp fun d =>
      { d with state := .listening, holding := some .idle, markPassed := false, headSeen := false,
               headOpen := false, train := none }
  else if c = .mark then t.updDrp fun d => { d with markPassed := true }
  else t

/-- A code received in SENDING: before the fresh MARK has gone, IDLE is discarded and any other code is a
collision; the first code after it ends SENDING and is taken in the state entered. In a soft-reset ending
every code is discarded without a count (R141, R150). -/
def State.sendingReceive (s : State) (c : Code) : State :=
  if s.drp.resetEnding then s
  else if s.drp.markSent = false then
    if c = .idle then s
    else s.updDrp fun d => { d with counts := { d.counts with collisions := d.counts.collisions + 1 } }
  else if s.drp.leaveRequested then (s.sendRing [c]).leftRing
  else
    (s.updDrp fun d => { d with state := .onRing, holding := none, markSent := false }).readingReceive c

/-- A code received on ring-in (R136). -/
def State.ringReceive (s : State) (c : Code) : State :=
  match s.drp.state with
  | .bypass => s.sendRing [c]
  | .joining => s.joiningReceive c
  | .sending => s.sendingReceive c
  | .listening | .onRing | .leaving => s.readingReceive c

/-- The port sends what goes before the fresh MARK, and the MARK; in a soft-reset ending it then enters
BYPASS with no notice (R141, R150). -/
def State.sendFreshMark (s : State) : State :=
  if s.drp.state = .sending ∧ s.drp.markSent = false then
    let t := s.sendRing (s.drp.unsent ++ [.mark])
    if s.drp.resetEnding then t.updDrp Drp.toBypass
    else t.updDrp fun d => { d with unsent := [], markSent := true }
  else s

/-! ### Requests -/

/-- RING_JOIN, carried out (R138). -/
def State.ringJoin (payload : List Word) (s : State) : State :=
  match payload with
  | [] =>
    if s.drp.state = .bypass then
      (s.updDrp fun d => { d with state := .joining, markPassed := false }).complete .accepted []
    else s.complete .wrongState []
  | _ => s.complete .badRequest []

/-- RING_LEAVE, carried out (R143). In a soft-reset ending the port is still SENDING, and R143's row for SENDING
acts; the port enters BYPASS at the end of that send with no notice (R150; DESIGN CHOICE, log entry 38). -/
def State.ringLeave (payload : List Word) (s : State) : State :=
  match payload with
  | [] =>
    match s.drp.state with
    | .bypass | .leaving => s.complete .wrongState []
    | .joining => s.leftRing.complete .accepted []
    | .listening | .onRing =>
      (s.updDrp fun d => { d with state := .leaving, leaveMark := false, headSeen := false }).complete .accepted []
    | .sending =>
      if s.drp.leaveRequested then s.complete .wrongState []
      else (s.updDrp fun d => { d with leaveRequested := true }).complete .accepted []
  | _ => s.complete .badRequest []

/-- RING_TRANSMIT, carried out (R145). -/
def State.ringTransmit (payload : List Word) (s : State) : State :=
  match payload with
  | [v] =>
    match enableOfNumber v.toNat with
    | some b => (s.updDrp fun d => { d with transmit := b }).complete .ok []
    | none => s.complete .invalid []
  | _ => s.complete .badRequest []

/-- SET_SLICE, carried out (R135). -/
def State.setSlice (payload : List Word) (s : State) : State :=
  match payload with
  | [id, a, first] =>
    if s.running ∨ s.tmr.enabled then s.complete .wrongState []
    else if 7 < id.toNat ∨ a.toNat < 1 ∨ 1024 < a.toNat then s.complete .invalid []
    else if 65536 < first.toNat + a.toNat then s.complete .invalid []
    else
      match (s.bank s.mmc.active).tooShort (ceilDiv a.toNat 8) with
      | some g => s.complete .length (word1 g)
      | none => (s.updDrp fun d => { d with settings := ⟨id.toNat, a.toNat, first.toNat⟩ }).complete .ok []
  | _ => s.complete .badRequest []

end Sys2Proof.Machine
end

