-- ==== Sys2Proof/Machine/FilterRequests.lean ====
section
/-! DEFINITION. The requests of the temporal filter: WRITE_ACTUATORS, WRITE_PAIRS, APPLY_PARAMETERS,
CANCEL_APPLY, PRESET_COMMANDS (R101, R103, R105, R107, R117). -/

namespace Sys2Proof.Machine

/-! ### The shadow (R101, R103) -/

/-- WRITE_ACTUATORS, carried out (R101). -/
def State.writeActuators (payload : List Word) (s : State) : State :=
  match payload with
  | first :: n :: records =>
    if records.length ≠ 6 * n.toNat then s.complete .badRequest []
    else if s.tfu.applyPending then s.complete .pending []
    else if 1023 < first.toNat ∨ n.toNat < 1 ∨ 128 < n.toNat ∨ 1024 < first.toNat + n.toNat then
      s.complete .invalid []
    else
      match paramsOf records with
      | some ps =>
        (s.updTfu fun t => { t with shadow := writeFrom t.shadow first.toNat ps }).complete .ok []
      | none => s.complete .invalid []
  | _ => s.complete .badRequest []

/-- WRITE_PAIRS, carried out (R103). -/
def State.writePairs (payload : List Word) (s : State) : State :=
  match payload with
  | first :: n :: count :: records =>
    if records.length ≠ 3 * n.toNat then s.complete .badRequest []
    else if s.tfu.applyPending then s.complete .pending []
    else if 2047 < first.toNat ∨ n.toNat < 1 ∨ 256 < n.toNat ∨ 2048 < first.toNat + n.toNat ∨
        2048 < count.toNat then
      s.complete .invalid []
    else
      match pairsOf records with
      | some ps =>
        (s.updTfu fun t =>
          { t with shadowPairs := ⟨writeFrom t.shadowPairs.slots first.toNat ps, count.toNat⟩ }).complete .ok []
      | none => s.complete .invalid []
  | _ => s.complete .badRequest []

/-! ### The apply (R105, R107) -/

/-- APPLY_PARAMETERS, carried out (R105). -/
def State.applyParameters (payload : List Word) (s : State) : State :=
  match payload with
  | [] =>
    if s.tfu.applyPending then s.complete .pending []
    else if s.running then (s.updTfu fun t => { t with applyPending := true }).complete .accepted []
    else (s.updTfu Tfu.apply).complete .ok []
  | _ => s.complete .badRequest []

/-- CANCEL_APPLY, carried out (R107). -/
def State.cancelApply (payload : List Word) (s : State) : State :=
  match payload with
  | [] =>
    if s.tfu.applyPending then
      (s.updTfu fun t => { t with applyPending := false, applyDue := false }).complete .ok []
    else s.complete .wrongState []
  | _ => s.complete .badRequest []

/-! ### The preset (R117) -/

/-- PRESET_COMMANDS, carried out (R117): while a filter pass is running it waits for the pass's end. -/
def State.presetCommands (payload : List Word) (s : State) : State :=
  match payload with
  | first :: n :: values =>
    if values.length ≠ n.toNat then s.complete .badRequest []
    else if s.lsv.loop = .closed then s.complete .wrongState []
    else if 1023 < first.toNat ∨ n.toNat < 1 ∨ 1024 < n.toNat ∨ 1024 < first.toNat + n.toNat then
      s.complete .invalid []
    else if s.tfu.pass.isSome then s.setJob (.pass first.toNat values)
    else s.makePreset first.toNat values
  | _ => s.complete .badRequest []

end Sys2Proof.Machine
end

