-- ==== Sys2Proof/Machine/Cycle.lean ====
section
/-! DEFINITION. The cycle's own events: the deadline and pace timers, ticks, one tick of time, and the end of a
filter pass. -/

namespace Sys2Proof.Machine

/-! ### Timers (R51 to R58) -/

/-- Time may pass up to `p` without passing over the expiry point of a timer that is running. -/
def Ctu.reachable (c : Ctu) (p : Time) (timer : Option Time) : Bool :=
  match timer with
  | some q => (p - c.timebase).toNat ≤ (q - c.timebase).toNat
  | none => true

/-- The deadline timer expires and delivers its expiry (R54). -/
def State.deadlineExpires (s : State) : State :=
  (s.updCtu fun c => { c with deadlineAt := none }).takeExpiry

/-- A tick: late, attaching or empty, in BATCH order while the loop is running (R55, R57). -/
def State.tick (s : State) : State :=
  if s.ctu.order = .batch ∧ s.running then
    if s.rce.state ≠ .idle then s.updCounts fun c => { c with lateTicks := c.lateTicks + 1 }
    else
      match s.oldestWaiting with
      | some x => s.attachNow x
      | none => s.updCounts fun c => { c with emptyTicks := c.emptyTicks + 1 }
  else s

/-- The pace timer at an expiry: it loads the pending period and sets its next expiry from the expiry point
just reached (R58). -/
def Ctu.paceReload (c : Ctu) (reached : Time) : Ctu :=
  { c with paceCurrent := c.pacePending, paceAt := some (reached + microseconds c.pacePending) }

/-- The pace timer expires: it reloads, and the expiry is a tick (R58). -/
def State.paceExpires (s : State) (reached : Time) : State := (s.updCtu (·.paceReload reached)).tick

/-- The timers whose expiry point is the present timebase value expire, the deadline timer first (log entry
2). -/
def State.expireDue (s : State) : State :=
  let t := if s.ctu.deadlineAt = some s.ctu.timebase then s.deadlineExpires else s
  if t.ctu.paceAt = some s.ctu.timebase then t.paceExpires s.ctu.timebase else t

/-- One 10 ns tick of the timebase (R51): a timer that is still due at the present value, after commands that
took no time, expires before it; then the timebase rises by one, and a timer whose expiry point is reached
expires (R54, R58; log entry 2). -/
def State.tickPasses (s : State) : State :=
  (s.expireDue.updCtu fun c => { c with timebase := c.timebase + 1 }).expireDue

/-! ### The end of a filter pass (R113) -/

/-- The report on a completed cycle (R113, R158). -/
def State.completionReport (s : State) (p : FilterPass) (saturated adjustments : Nat) (commands : Option (List Word)) :
    CycleReport :=
  { outcome := .completed, skip := none, loop := some p.loop, bank := some p.bank,
    attachedAt := some p.attachedAt, endedAt := some s.ctu.timebase, saturated := saturated,
    adjustments := adjustments, residuals := p.residuals, commands := commands }

/-- A pass sampled CLOSED or HELD forms a slice (R109, R116). -/
def FilterPass.formsSlice (p : FilterPass) : Bool := p.loop == .closed || p.loop == .held

/-- The slice a pass forms from the accumulators as written (R116). -/
def State.formSlice (s : State) (p : FilterPass) : Slice :=
  { tag := p.tag, held := p.loop == .held, words := s.tfu.commandWords s.actuators,
    settings := s.drp.settings }

/-- Steps 1 to 5 of R113: results written, the slice handed on, the outcome COMPLETED given. -/
def State.completePass (s : State) (p : FilterPass) : State :=
  let result := s.tfu.passResult p
  let saturated := saturatedCount result.1
  let t := s.updTfu (·.writeBack result.1)
  let slice := t.formSlice p
  let u := if p.formsSlice then t.updDrp (·.join slice) else t
  let report := s.completionReport p saturated result.2 (if p.formsSlice then some slice.words else none)
  let v := (u.superviseCompletion p.tag saturated result.2).updDesc p.buffer fun d =>
    { d with outcome := some .completed }
  let w := ((v.recordOutcome p.buffer report).retire p.buffer).freeIfReleased p.buffer
  if s.lsv.saturationTrips saturated then w.freeze .saturation p.tag else w

/-- Step 6 of R113: an apply that is due is made with the event PASS_END (R104, R106). -/
def State.applyIfDue (s : State) : State :=
  if s.tfu.applyDue then s.applyAt (.passEnd s.tfu.applyTag) else s

/-- A preset that waited for the pass is made after step 6 (R117). -/
def State.presetIfWaiting (s : State) : State :=
  match s.clp.inExec with
  | some ⟨_, .pass first values⟩ => s.makePreset first values
  | _ => s

/-- The end of the running filter pass, all steps of R113. -/
def State.endPass (s : State) : State :=
  match s.tfu.pass with
  | some p =>
    (((s.completePass p).applyIfDue.presetIfWaiting).updTfu fun t => { t with pass := none }).offer
  | none => s

end Sys2Proof.Machine
end

