-- ==== Sys2Proof/Machine/Resets.lean ====
section
/-! DEFINITION. The two resets (R26, R49, R62, R83, R99, R119, R133, R150, R165, R173, R177, R178) and the
entry to STOPPED (R48, R98, R108, R81, R123, R160), block by block. -/

namespace Sys2Proof.Machine

/-! ### The slope assembly unit at STOP and soft reset (R48, R49) -/

/-- A buffer is OPEN or CLOSED without an outcome (R48). -/
def Descriptor.toAbandon (d : Descriptor) : Bool :=
  (d.state == .opened || d.state == .closed) && d.outcome == none

/-- How many buffers receive ABANDONED (R48, R127). -/
def State.abandonCount (s : State) : Nat :=
  (if (s.desc .a).toAbandon then 1 else 0) + (if (s.desc .b).toAbandon then 1 else 0)

/-- A buffer freed by STOP or a soft reset keeps its tag and timestamps (R28). -/
def SlopeBuffer.free (y : SlopeBuffer) : SlopeBuffer :=
  { y with desc := .freed y.desc.tag y.desc.openedAt y.desc.closedAt }

/-- The SAU after STOP or a soft reset: both buffers freed, the last-closed tag none, the rotation point and
the note of the buffer last opened as R29 and R30 set them. -/
def Sau.free (u : Sau) : Sau :=
  { Sau.reset with bufA := u.bufA.free, bufB := u.bufB.free }

/-! ### The entry to STOPPED (R123) -/

/-- The SAU at the entry to STOPPED: a copy in progress ends NOT_STORED, buffers without an outcome receive
ABANDONED, both are freed (R32, R48). -/
def State.stopAssembly (s : State) : State :=
  let t :=
    match s.sau.copy with
    | some c => s.returnOutcome c.link .notStored
    | none => s
  (t.superviseAbandon s.abandonCount).updSau Sau.free

/-- The recorder learns of the freeing: a record whose slope copy is not done is cut (R160). -/
def State.stopRecorder (s : State) : State :=
  match s.tmr.writing with
  | some w => if w.holds then s.cutRecord else s
  | none => s

/-- The TFU at the entry to STOPPED: a running pass is cut off, then a pending apply is made (R108, R114). -/
def State.stopFilter (s : State) : State :=
  let t := s.updTfu fun f => { f with pass := none }
  if t.tfu.applyPending then t.applyAt .stop else t

/-- Every effect of an entry to STOPPED (R123). The SET_LOOP in execution waits for the engine's report. -/
def State.enterStopped (s : State) : State :=
  let found := s.lsv.loop
  let s1 := (s.updLsv fun v => { v with loop := .stopped, stopInProgress := true }).setJob (.engine found)
  let s2 := s1.stopRecorder.stopAssembly
  let s3 := s2.updCtu fun c => { c with deadlineAt := none }
  let s4 := s3.abandon.stopFilter.makeSwap none
  let s5 := s4.updDrp fun d => { d with queue := [] }
  s5.reportIdle

/-! ### Soft reset (R177) -/

/-- A link at a soft reset (R26): the map entry is kept. -/
def LinkState.softReset (x : LinkState) : LinkState :=
  { LinkState.reset with receiver := if x.entry.enabled then .hunt else .disabled, entry := x.entry }

/-- The CTU at a soft reset (R58, R62). -/
def Ctu.softReset (c : Ctu) : Ctu :=
  let t := { c with timebase := 0, deadlineAt := none, paceAt := none }
  if c.trigger = .paced then t.paceReload 0 else t

/-- The MMC at a soft reset: waiting bursts withdrawn, a transferring one dropped, a pending swap cancelled,
the counts at 0 (R68, R83). -/
def Mmc.softReset (m : Mmc) : Mmc :=
  { m with
    swap := none, corrected := 0, uncorrectable := 0, engineWaits := none, recorderWaits := none,
    hostWaits := none, port := m.port.map fun p => { p with dropped := true } }

/-- The engine at a soft reset, the port's burst given: it abandons, and holds the values of R84 when it is
IDLE (R96, R99). -/
def Rce.softReset (e : Rce) (enginePort : Bool) : Rce :=
  if enginePort then { e with state := .draining, sums := Rce.reset.sums, residuals := [] } else .reset

/-- An active record at a soft reset: the accumulator at the value of its range nearest 0, the saturation
count at 0 (R119). -/
def ActiveRecord.softReset (r : ActiveRecord) : ActiveRecord :=
  { r with acc := r.params.clamp 0, saturations := 0 }

/-- The TFU at a soft reset (R119). The tag noted with apply due is kept (DESIGN CHOICE, log entry 37). -/
def Tfu.softReset (t : Tfu) : Tfu :=
  { t with
    active := mapTable (fun _ r => r.softReset) t.active, applyPending := false, applyDue := false, pass := none }

/-- The supervisor at a soft reset (R133): the trip limits are kept. -/
def Lsv.softReset (v : Lsv) : Lsv :=
  { Lsv.reset with skipLimit := v.skipLimit, saturationLimit := v.saturationLimit }

/-- The recorder at a soft reset (R165): the configuration is kept. -/
def Tmr.softReset (t : Tmr) : Tmr := { Tmr.reset with config := t.config }

/-- The ring port at a soft reset (R150): out of SENDING it sends ABORT unless CLOSE has gone (`sent` codes
of the frame have), and the fresh MARK unless that has gone; otherwise it enters BYPASS at once. The
slice settings are kept. Where an earlier soft reset is still ending a send (`resetEnding`), the ABORT and MARK
that it left to go stay as they are (DESIGN CHOICE, log entry 39). -/
def Drp.softReset (d : Drp) (sent : Nat) : Drp :=
  let base := { Drp.reset with settings := d.settings }
  if d.state = .sending ∧ d.markSent = false then
    { base with
      state := .sending, resetEnding := true
      unsent := if d.resetEnding then d.unsent else if sent < d.unsent.length then [.abort] else [] }
  else base

/-- What the ring port sends at the moment a soft reset takes effect: in SENDING the codes of its frame
that have gone (a free value, log entry 8), in the repeating states its held code (R150). Where an earlier
soft reset is still ending a send it sends nothing at that moment (DESIGN CHOICE, log entry 39). -/
def Drp.softResetCodes (d : Drp) (sent : Nat) : List Code :=
  match d.state with
  | .sending => if d.markSent ∨ d.resetEnding then [] else d.unsent.take sent
  | .listening | .onRing | .leaving => d.holding.toList
  | .bypass | .joining => []

/-- The CLP at a soft reset (R177): the notice mask, the receiver and a message being received are kept. -/
def Clp.softReset (c : Clp) (timebase : Time) : Clp :=
  { c with
    requests := [], inExec := none, replies := [], notices := [], sending := none, resetInHand := false,
    receiveErrors := 0, syncLosses := 0, queueFull := 0, dropped := 0, lastReset := .soft,
    resetPoint := timebase }

/-- Every block performs its soft reset (R177). -/
def State.softResetAll (s : State) : State :=
  let sent := Config.codesSent s.drawn
  { s with
    links := mapTable (fun _ x => x.softReset) s.links
    sau := s.sau.free
    ctu := s.ctu.softReset
    mmc := s.mmc.softReset
    rce := s.rce.softReset s.enginePort
    tfu := s.tfu.softReset
    lsv := s.lsv.softReset
    drp := s.drp.softReset sent
    tmr := s.tmr.softReset
    clp := s.clp.softReset s.ctu.timebase
    ringOut := s.ringOut ++ s.drp.softResetCodes sent
    drawn := s.drawn + 1 }

/-- The reply of the RESET request whose CLOSE sets off the soft reset (R177). -/
def isResetReply (m : Sending) : Bool :=
  match m with
  | .reply r => r.code == 5 && r.result == .ok
  | .notice _ => false

/-- The transmitter finishes a message: its CLOSE has been sent. If it is the RESET reply, the soft reset
takes effect at that moment (R173, R177). -/
def State.finishMessage (s : State) : State :=
  match s.clp.sending with
  | some m =>
    let t := (s.sendControl m.codes).updClp fun c => { c with sending := none }
    if s.clp.resetInHand ∧ isResetReply m then t.softResetAll else t
  | none => s

/-! ### Hard reset -/

/-- What of a message or slice frame had gone out when a hard reset stopped it where it stood (R150, R173;
a free value, log entry 8). -/
def cutCodes (sent : Nat) (codes : List Code) : List Code := codes.take sent

/-- Every block at its hard-reset values, held there (R62, R150, R173). What had gone out on the lanes, and
the commands that wait, stand. -/
def State.hardResetAll (s : State) : State :=
  let sent := Config.codesSent s.drawn
  { State.reset with
    pending := s.pending
    inReset := true
    ringOut := s.ringOut ++ cutCodes sent s.drp.unsent
    controlOut := s.controlOut ++ (match s.clp.sending with | some m => cutCodes sent m.codes | none => [])
    drawn := s.drawn + 1 }

/-- The hard reset ends: the timebase starts from 0 and the transmitter sends one ABORT (R51, R173). -/
def State.leaveReset (s : State) : State :=
  if s.inReset then ({ s with inReset := false }).sendControl [.abort] else s

end Sys2Proof.Machine
end

