-- ==== Sys2Proof/Machine/Status.lean ====
section
/-! DEFINITION. The requests that report: READ_STATUS, READ_COUNTERS, READ_LINK_STATUS, READ_ACTUATORS, with
the words of their replies (R25, R118, R175, R176, R179, R181; layouts the manual leaves to R179 are in
log entry 16). -/

namespace Sys2Proof.Machine

/-! ### Items -/

/-- A 32-bit count, two words (R179). -/
def countWords (c : Count) : List Word := word2 c.toNat

/-- The ten counters of a link in the order of R23. -/
def LinkCounts.words (c : LinkCounts) : List Word :=
  ([c.good, c.crc, c.framing, c.misrouted, c.outOfWindow, c.lengthErrors, c.aborts, c.syncLosses, c.overruns,
    c.markers].map countWords).flatten

/-- The fifteen cycle counters in the order of R130. -/
def CycleCounts.words (c : CycleCounts) : List Word :=
  ([c.opened, c.completed, c.skippedMissing, c.skippedMemory, c.abandoned, c.closedComplete, c.closedEnded,
    c.closedDeadline, c.closedOvertaken, c.lateTicks, c.emptyTicks, c.residualSaturations,
    c.actuatorSaturations, c.pairAdjustments, c.absentBlocks].map countWords).flatten

/-- The six ring counters in the order of R149. -/
def RingCounts.words (c : RingCounts) : List Word :=
  ([c.sent, c.stale, c.overruns, c.collisions, c.violations, c.badHeads].map countWords).flatten

/-- The five telemetry counts in the order of R165. -/
def TelemetryCounts.words (c : TelemetryCounts) : List Word :=
  ([c.written, c.late, c.overwritten, c.full, c.cut].map countWords).flatten

/-- A map entry's five fields (the sensor map). -/
def MapEntry.words (e : MapEntry) : List Word :=
  flagWord e.enabled ++ word1 e.base ++ word1 e.blocks ++ word1 e.slopes ++ word1 e.role.number

/-- A sensor's status in a descriptor: accepted set, END seen, complete. -/
def SensorStatus.words (x : SensorStatus) : List Word := [x.accepted] ++ flagWord x.endSeen ++ flagWord x.complete

/-- A buffer descriptor, the fields of its table in order (R181). -/
def Descriptor.words (d : Descriptor) : List Word :=
  [d.tag] ++ word1 d.state.number ++ word1 ((d.cause.map ClosureCause.number).getD 0) ++
    word1 d.relation.number ++ word1 ((d.outcome.map CycleOutcome.number).getD 0) ++
    word1 ((d.skip.map SkipCause.number).getD 0) ++ (d.sensors.toList.map SensorStatus.words).flatten ++
    listWords (d.ready.map word1) ++ word1 d.markers ++ word2 d.openedAt.toNat ++ word2 d.closedAt.toNat

/-- A directory's 64 entries in index order (R181). -/
def Bank.words (x : Bank) : List Word :=
  (x.directory.toList.map fun e => flagWord e.present ++ word2 e.base ++ word2 e.pages).flatten

/-! ### READ_STATUS (R175, R181) -/

def State.clpStatus (s : State) : List Word :=
  word1 s.clp.requests.length ++ word1 s.clp.replies.length ++
    listWords (s.clp.notices.map fun n => word1 n.payload.kind.number) ++ word1 s.clp.mask.toNat

def State.ctuStatus (s : State) : List Word :=
  let c := s.ctu
  word2 c.timebase.toNat ++ word1 c.trigger.number ++ word1 c.pacePending ++ word1 (edgeNumber c.edge) ++
    word1 c.deadline ++ word1 c.order.number ++ word1 c.paceCurrent ++ word1 c.pacePending ++
    flagWord c.deadlineAt.isSome ++ flagWord c.paceAt.isSome

def State.sauStatus (s : State) : List Word :=
  (s.desc .a).words ++ (s.desc .b).words ++ optWord (s.sau.lastClosed.map BitVec.toNat) ++
    word1 (s.freeBuffer.getD s.sau.lastOpened.other).number

def State.mmcStatus (s : State) : List Word :=
  word1 s.mmc.active.number ++ optWord (s.mmc.swap.map BankId.number) ++ word1 s.mmc.bank0.shift ++
    word1 s.mmc.bank1.shift ++ s.mmc.bank0.words ++ s.mmc.bank1.words

def State.rceStatus (s : State) : List Word :=
  word1 s.rce.state.number ++ word1 ((s.rce.attached.map BufferId.number).getD 2) ++
    optWord (s.rce.bank.map BankId.number) ++ optWord s.rce.shift

def State.tfuStatus (s : State) : List Word :=
  flagWord s.tfu.applyPending ++ flagWord s.tfu.applyDue ++ flagWord s.tfu.pass.isSome

def State.lsvStatus (s : State) : List Word :=
  word1 s.lsv.loop.number ++ word1 ((s.lsv.tripCause.map TripCause.number).getD 0) ++ [s.lsv.tripFrame] ++
    [s.lsv.skips] ++ word1 s.lsv.skipLimit ++ word1 s.lsv.saturationLimit

def State.drpStatus (s : State) : List Word :=
  let d := s.drp
  word1 d.settings.id ++ word1 d.settings.actuators ++ word1 d.settings.firstGlobal ++ word1 d.state.number ++
    flagWord d.markPassed ++ flagWord d.headSeen ++ flagWord d.leaveRequested ++
    optWord (d.train.map BitVec.toNat) ++ flagWord d.transmit ++
    listWords (d.queue.map fun q => [q.tag] ++ flagWord q.held)

/-- The sensors that a store's geometry serves, as a mask (R153, R179). -/
def Geometry.sensorMask (g : Geometry) : Nat :=
  ((List.range 8).map fun i => if g.blocks.getD i 0 = 0 then 0 else 2 ^ i).sum

/-- The TMR's group. Of the store geometry's "enabled sensors and their block counts" the sensors are a set
word, and the block counts a fixed table of eight, 0 for a sensor that is not enabled (DEDUCED from R179,
log entry 16). -/
def State.tmrStatus (s : State) : List Word :=
  let t := s.tmr
  let c := t.config.getD ⟨0, 0, ⟨false, false, false⟩, 0, .ring, 0⟩
  let g := t.geometry.getD ⟨0, 0, 0, List.replicate 8 0⟩
  flagWord t.config.isSome ++ word2 c.base ++ word2 c.pages ++ word1 c.sections.mask ++ word1 c.decimation ++
    word1 c.mode.number ++ word1 c.threshold ++ flagWord t.enabled ++ flagWord t.frozen ++
    flagWord t.geometry.isSome ++ word1 g.slotSize ++ word2 g.capacity ++ word1 g.actuators ++
    word1 g.sensorMask ++ (g.blocks.map word1).flatten ++ word2 t.unread.length ++
    optWord (t.writing.map fun w => w.tag.toNat) ++ t.counts.words

/-- One block's group, preceded by its length in words (R181). -/
def groupWords (ws : List Word) : List Word := word1 ws.length ++ ws

/-- The READ_STATUS payload: the groups in the order of the table of R175. -/
def State.statusWords (s : State) : List Word :=
  ([s.clpStatus, s.ctuStatus, s.sauStatus, s.mmcStatus, s.rceStatus, s.tfuStatus, s.lsvStatus, s.drpStatus,
    s.tmrStatus].map groupWords).flatten

/-- READ_STATUS, carried out (R175). -/
def State.readStatus (payload : List Word) (s : State) : State :=
  match payload with
  | [] => s.complete .ok s.statusWords
  | _ => s.complete .badRequest []

/-! ### READ_COUNTERS (R176) -/

/-- The READ_COUNTERS payload: links, memory, cycle, ring, CLP. -/
def State.counterWords (s : State) : List Word :=
  (s.links.toList.map fun x => x.counts.words).flatten ++ countWords s.mmc.corrected ++
    countWords s.mmc.uncorrectable ++ s.lsv.counts.words ++ s.drp.counts.words ++
    ([s.clp.receiveErrors, s.clp.syncLosses, s.clp.queueFull, s.clp.dropped].map countWords).flatten

/-- READ_COUNTERS, carried out (R176). -/
def State.readCounters (payload : List Word) (s : State) : State :=
  match payload with
  | [] => s.complete .ok s.counterWords
  | _ => s.complete .badRequest []

/-! ### READ_LINK_STATUS (R25) -/

/-- The link a payload word names (R22, R25). -/
def linkOf (w : Word) : Option Link := if h : w.toNat < 8 then some ⟨w.toNat, h⟩ else none

/-- The READ_LINK_STATUS payload of a link (R25). -/
def LinkState.statusWords (x : LinkState) : List Word :=
  word1 x.receiver.number ++ flagWord (x.receiver == .receiving && x.storing.isNone) ++ x.entry.words ++
    word1 x.buffer0.state.number ++ word1 x.buffer1.state.number ++
    (match x.current with
      | some r => 1 :: r.record.words
      | none => List.replicate 6 0) ++
    word1 x.closing.length ++ word1 x.queue.length ++ flagWord x.overflow ++ x.counts.words

/-- READ_LINK_STATUS, carried out (R25). -/
def State.readLinkStatus (payload : List Word) (s : State) : State :=
  match payload with
  | [l] =>
    match linkOf l with
    | some k => s.complete .ok (s.link k).statusWords
    | none => s.complete .invalid []
  | _ => s.complete .badRequest []

/-! ### READ_FRAME_RECORDS (R22) -/

/-- READ_FRAME_RECORDS, carried out (R22): the oldest records removed and returned, the overflow flag as it
was, cleared afterwards where the option asks. -/
def State.readFrameRecords (payload : List Word) (s : State) : State :=
  match payload with
  | [l, n, clear] =>
    match linkOf l, flagOfNumber clear.toNat with
    | some k, some c =>
      if n.toNat < 1 ∨ 16 < n.toNat then s.complete .invalid []
      else
        let x := s.link k
        let out := x.queue.take n.toNat
        (s.updLink k fun y =>
          { y with queue := y.queue.drop n.toNat, overflow := if c then false else y.overflow }).complete .ok
          (flagWord x.overflow ++ listWords (out.map FrameRecord.words))
    | _, _ => s.complete .invalid []
  | _ => s.complete .badRequest []

/-! ### READ_ACTUATORS (R118) -/

/-- READ_ACTUATORS, carried out (R118). -/
def State.readActuators (payload : List Word) (s : State) : State :=
  match payload with
  | [sel, first, n] =>
    if 1 < sel.toNat ∨ 1023 < first.toNat ∨ n.toNat < 1 ∨ 128 < n.toNat ∨ 1024 < first.toNat + n.toNat then
      s.complete .invalid []
    else
      let items :=
        if sel.toNat = 0 then ((s.tfu.active.toList.drop first.toNat).take n.toNat).map ActiveRecord.words
        else ((s.tfu.shadow.toList.drop first.toNat).take n.toNat).map ActuatorParams.words
      let count := if sel.toNat = 0 then s.tfu.activePairs.count else s.tfu.shadowPairs.count
      s.complete .ok (listWords items ++ word1 count ++ flagWord s.tfu.applyPending)
  | _ => s.complete .badRequest []

end Sys2Proof.Machine
end

