-- ==== Sys2Proof/Machine/LoopRequests.lean ====
section
/-! DEFINITION. The requests that set the loop, the sensor map and the timing: SET_LOOP, SET_TRIP,
CLEAR_COUNTERS, SET_SENSOR, SET_TIMING (R13, R14, R61, R121 to R123, R129, R131). -/

namespace Sys2Proof.Machine

/-! ### SET_LOOP (R121 to R123) -/

/-- The two states an OK reply to SET_LOOP carries: the one found and the one after (R121). -/
def loopReply (found after : LoopState) : List Word := word1 found.number ++ word1 after.number

/-- The entry to a running state (R122): an entry to CLOSED sets the trip cause to none. -/
def State.enterRunning (s : State) (target : LoopState) : State :=
  (s.updLsv fun v =>
    { v with loop := target, tripCause := if target = .closed then none else v.tripCause }).complete .ok
    (loopReply s.lsv.loop target)

/-- SET_LOOP, carried out (R121). -/
def State.setLoop (payload : List Word) (s : State) : State :=
  match payload with
  | [t] =>
    match LoopState.ofNumber t.toNat with
    | some target =>
      if target = s.lsv.loop then s.complete .ok (loopReply target target)
      else if target = .stopped then s.enterStopped
      else s.enterRunning target
    | none => s.complete .invalid []
  | _ => s.complete .badRequest []

/-! ### SET_TRIP (R129) -/

/-- SET_TRIP, carried out (R129). -/
def State.setTrip (payload : List Word) (s : State) : State :=
  match payload with
  | [skips, saturations] =>
    if 255 < skips.toNat ∨ 1024 < saturations.toNat then s.complete .invalid []
    else
      (s.updLsv fun v =>
        { v with skipLimit := skips.toNat, saturationLimit := saturations.toNat }).complete .ok []
  | _ => s.complete .badRequest []

/-! ### CLEAR_COUNTERS (R131) -/

/-- Everything CLEAR_COUNTERS sets to 0 (R131). -/
def State.clearAll (s : State) : State :=
  let t := s.updLsv fun v => { v with skips := 0, counts := .zero }
  let u := t.updLinks fun x => { x with counts := .zero }
  let v := u.updMmc fun m => { m with corrected := 0, uncorrectable := 0 }
  v.updTfu fun f => { f with active := mapTable (fun _ r => { r with saturations := 0 }) f.active }

/-- CLEAR_COUNTERS, carried out (R131). -/
def State.clearCounters (payload : List Word) (s : State) : State :=
  match payload with
  | [] => if s.running then s.complete .wrongState [] else s.clearAll.complete .ok []
  | _ => s.complete .badRequest []

/-! ### SET_SENSOR (R13, R14) -/

/-- The windows of two entries share a global block index (R13 check 5). -/
def MapEntry.meets (e f : MapEntry) : Bool := e.base < f.base + f.blocks && f.base < e.base + e.blocks

/-- Another enabled sensor's window shares a global block index with the entry (R13 check 5). -/
def State.windowTaken (s : State) (l : Link) (e : MapEntry) : Bool :=
  (List.finRange 8).any fun k => k != l && (s.link k).entry.enabled && (s.link k).entry.meets e

/-- The role a payload word names (R179). -/
def Role.ofNumber : Nat → Option Role
  | 0 => some .essential | 1 => some .optional | _ => none

/-- The sensor and the entry a SET_SENSOR payload names, where it passes check 2 of R13. -/
def sensorFields (sensor enabled base blocks slopes role : Word) : Option (Link × MapEntry) :=
  match linkOf sensor, flagOfNumber enabled.toNat, Role.ofNumber role.toNat with
  | some l, some en, some r =>
    if base.toNat ≤ 63 ∧ 1 ≤ blocks.toNat ∧ blocks.toNat ≤ 16 then
      some (l, ⟨en, base.toNat, blocks.toNat, slopes.toNat, r⟩)
    else none
  | _, _, _ => none

/-- Checks 3 and 4 of R13. -/
def MapEntry.fits (e : MapEntry) : Bool :=
  e.base + e.blocks ≤ 64 && 256 * (e.blocks - 1) < e.slopes && e.slopes ≤ 256 * e.blocks

/-- A receiver that enters DISABLED: a packet being stored is lost, a current record is closed with
SYNC_LOST (R14). -/
def LinkState.disable (x : LinkState) : LinkState :=
  let y := match x.storing with
    | some k => x.freePacket k
    | none => x
  LinkState.closeLost { y with receiver := .disabled, storing := none }

/-- An accepted SET_SENSOR at its link: the entry replaced, the receiver according to the enabled flag
before and after (R13, R14). -/
def LinkState.setEntry (x : LinkState) (e : MapEntry) : LinkState :=
  let y := { x with entry := e }
  match x.entry.enabled, e.enabled with
  | false, true => { y with receiver := .hunt }
  | true, false => y.disable
  | _, _ => y

/-- SET_SENSOR, carried out (R13). -/
def State.setSensor (payload : List Word) (s : State) : State :=
  match payload with
  | [sensor, enabled, base, blocks, slopes, role] =>
    if s.running ∨ s.tmr.enabled then s.complete .wrongState []
    else
      match sensorFields sensor enabled base blocks slopes role with
      | some (l, e) =>
        if e.fits = false then s.complete .invalid []
        else if e.enabled ∧ s.windowTaken l e then s.complete .overlap []
        else (s.updLink l (·.setEntry e)).complete .ok []
      | none => s.complete .invalid []
  | _ => s.complete .badRequest []

/-! ### SET_TIMING (R58, R61) -/

/-- The five settings of a SET_TIMING (03_cycle_timing, the table of settings). -/
structure TimingSettings where
  trigger : Trigger
  period : Nat
  edge : Edge
  deadline : Nat
  order : ComputeOrder
  deriving DecidableEq, Repr

/-- The settings a payload names, where every field is within the table's values (R61 check 1). -/
def timingFields (trigger period edge deadline order : Word) : Option TimingSettings :=
  match Trigger.ofNumber trigger.toNat, edgeOfNumber edge.toNat, ComputeOrder.ofNumber order.toNat with
  | some t, some e, some o =>
    if 100 ≤ period.toNat ∧ 10 ≤ deadline.toNat then some ⟨t, period.toNat, e, deadline.toNat, o⟩ else none
  | _, _, _ => none

/-- The pace timer when the trigger may have changed: a switch to PACED starts it, any other trigger stops
it (R58). -/
def Ctu.switchPace (c : Ctu) (before : Trigger) : Ctu :=
  if c.trigger = .paced then (if before = .paced then c else c.paceReload c.timebase)
  else { c with paceAt := none }

/-- The five settings replaced together (R58, R61). -/
def Ctu.setTiming (c : Ctu) (x : TimingSettings) : Ctu :=
  Ctu.switchPace
    { c with trigger := x.trigger, pacePending := x.period, edge := x.edge, deadline := x.deadline,
             order := x.order } c.trigger

/-- An accepted SET_TIMING: a switch to IMMEDIATE attaches an IDLE engine at once if a buffer awaits
computation (R56, R61). -/
def State.applyTiming (s : State) (x : TimingSettings) : State :=
  let t := s.updCtu (·.setTiming x)
  if x.trigger = .immediate ∧ s.ctu.trigger ≠ .immediate ∧ x.order = .batch then t.attachOnIdle.offer else t

/-- SET_TIMING, carried out (R61). -/
def State.setTiming (payload : List Word) (s : State) : State :=
  match payload with
  | [trigger, period, edge, deadline, order] =>
    match timingFields trigger period edge deadline order with
    | some x =>
      if x.order ≠ s.ctu.order ∧ s.running then s.complete .wrongState []
      else (s.applyTiming x).complete .ok []
    | none => s.complete .invalid []
  | _ => s.complete .badRequest []

end Sys2Proof.Machine
end

