-- ==== Sys2Proof/Machine/Bursts.lean ====
section
/-! DEFINITION. The memory arbiter and the bursts: grants by priority, ECC checks, and what each requester does
with a burst that has ended (R63 to R68, R76, R77, R90, R95, R159, R163). -/

namespace Sys2Proof.Machine

/-! ### The arbiter (R67) -/

/-- The host channel presents the next burst of the request in execution (R76, R77, R163). -/
def State.presentHost (s : State) : State :=
  match s.clp.inExec with
  | some ⟨_, .transfer (b :: todo) left got kind⟩ =>
    (s.updMmc fun m => { m with hostWaits := some b }).setJob (.transfer todo left got kind)
  | _ => s

/-- The free port is granted to the waiting requester of highest priority, which may present its next burst
at once (R67). -/
def State.grantBurst (s : State) : State :=
  if s.mmc.port.isSome then s
  else
    match s.mmc.engineWaits, s.mmc.recorderWaits, s.mmc.hostWaits with
    | some b, _, _ => (s.updMmc fun m => { m with port := some b, engineWaits := none }).presentRow
    | none, some b, _ => (s.updMmc fun m => { m with port := some b, recorderWaits := none }).presentRecord
    | none, none, some b => (s.updMmc fun m => { m with port := some b, hostWaits := none }).presentHost
    | none, none, none => s

/-! ### The host channel (R76, R77, R163) -/

/-- The reply of a request whose bursts have all ended (R76, R77, R163). -/
def State.hostDone (s : State) (kind : TransferKind) (got : List Word) : State :=
  match kind with
  | .writeMatrix => s.complete .ok []
  | .readMatrix => s.complete .ok got
  | .readTelemetry skip count =>
    (s.updTmr fun t => { t with underRead := none }).complete .ok ((got.drop skip).take count)

/-- A burst of the host channel has ended, bringing `words` (none for a write). -/
def State.hostBurstEnded (s : State) (words : List Word) : State :=
  match s.clp.inExec with
  | some ⟨_, .transfer todo left got kind⟩ =>
    if left ≤ 1 then s.hostDone kind (got ++ words) else s.setJob (.transfer todo (left - 1) (got ++ words) kind)
  | _ => s

/-- A requester of the host channel. -/
def Requester.isHost (w : Requester) : Bool := w == .hostMatrix || w == .hostTelemetry

/-- An uncorrectable burst ends a host read with MEMORY_ERROR: the waiting burst is withdrawn, a granted one
is dropped; a matrix read's reply carries the row (R77, R163). -/
def State.hostReadFails (s : State) (b : Burst) : State :=
  let t := s.updMmc fun m =>
    { m with
      hostWaits := none
      port := m.port.map fun p => if p.who.isHost then { p with dropped := true } else p }
  (t.updTmr fun x => { x with underRead := none }).complete .memoryError
    (if b.who = .hostMatrix then word1 b.row else [])

/-! ### The end of a burst (R64, R65) -/

/-- A write burst moved: its 512 bytes stand in the DRAM with fresh check bits (R65). -/
def Mmc.writeBurst (m : Mmc) (place : Nat) (ws : List Word) : Mmc :=
  { m with dram := Memory.writeBurst m.dram place ws, weak := clearWeak m.weak place }

/-- The port is free again; where `grantFirst`, the arbiter has been consulted before the requester acts on
the burst's report, the same moment in the other order (R95). -/
def State.freePort (s : State) (grantFirst : Bool) : State :=
  let t := s.updMmc fun m => { m with port := none }
  if grantFirst then t.grantBurst else t

/-- The end of a write, told to its requester unless it was dropped (R76, R159, R160). -/
def State.writeEnded (s : State) (b : Burst) : State :=
  if b.dropped then s
  else
    match b.who with
    | .telemetry => s.recordBurstEnded b.row
    | .hostMatrix | .hostTelemetry => s.hostBurstEnded []
    | .engine => s

/-- The report of a checked read burst: counts, and the MEMORY_ERROR notice for an uncorrectable one (R64,
R66). -/
def State.reportRead (s : State) (b : Burst) (results : List EccResult) : State :=
  let t := s.updMmc fun m =>
    { m with
      corrected := addCount m.corrected (results.count .corrected)
      uncorrectable := if results.contains .uncorrectable then m.uncorrectable + 1 else m.uncorrectable }
  if results.contains .uncorrectable then t.raise (.memoryError b.who b.place b.bank b.block b.row) else t

/-- What the engine does with the end of one of its bursts (R90, R95, R96). -/
def State.engineBurstEnded (s : State) (b : Burst) (bad : Bool) (words : List Word) : State :=
  match s.rce.state, s.rce.attached, s.rce.block with
  | .draining, _, _ => if s.enginePort then s else s.engineLetsGo.enterIdle
  | .busy, some x, some g =>
    if b.dropped then s else if bad then s.memorySkip x else s.addRow x g b.row words
  | _, _, _ => s

/-- The end of a read, told to its requester (R77, R90, R95, R163). -/
def State.readEnded (s : State) (b : Burst) (bad : Bool) (words : List Word) : State :=
  match b.who with
  | .engine => s.engineBurstEnded b bad words
  | .hostMatrix | .hostTelemetry =>
    if b.dropped then s else if bad then s.hostReadFails b else s.hostBurstEnded words
  | .telemetry => s

/-- The end of the burst on the port: the transfer, the checks of a read, the report and the requester's
act. `errors` are the stored words' errors that have come about since (R64; log entry 5). An uncorrectable
burst raises MEMORY_ERROR before the requester acts on it, so before a CYCLE_SKIPPED, LOOP_TRIPPED or
SWAP_DONE that follows at the same moment (R66, R80, R126, R128; DESIGN CHOICE, log entry 23). -/
def State.endBurst (s : State) (grantFirst : Bool) (errors : List BitError) : State :=
  match s.mmc.port with
  | none => s
  | some b =>
    match b.write with
    | some ws => ((s.updMmc (·.writeBurst b.place ws)).freePort grantFirst).writeEnded b
    | none =>
      let weak := addErrors s.mmc.dram b.place s.mmc.weak errors
      let results := eccResults s.mmc.dram weak b.place s.drawn
      let words := readWords s.mmc.dram b.place s.drawn
      let t := { s.updMmc fun m => { m with weak := weak } with drawn := s.drawn + 1 }
      ((t.reportRead b results).freePort grantFirst).readEnded b (results.contains .uncorrectable) words

end Sys2Proof.Machine
end

