-- ==== Sys2Proof/Machine/MatrixRequests.lean ====
section
/-! DEFINITION. The requests of the matrix memory: WRITE_DIRECTORY, SET_BANK_SHIFT, WRITE_MATRIX, READ_MATRIX,
SWAP_BANK, CANCEL_SWAP (R71 to R82). -/

namespace Sys2Proof.Machine

/-! ### Protection (R71) -/

/-- Why a bank refuses a write: WRITE_PROTECTED for the active bank, PENDING for the target of a pending
swap (R71). -/
def Mmc.protection (m : Mmc) (k : BankId) : Option Result :=
  if k = m.active then some .writeProtected
  else if m.swap = some k then some .pending
  else none

/-! ### WRITE_DIRECTORY (R72, R73) -/

/-- Pages in the stacked DRAM (The stacked DRAM). -/
def pagesInDram : Nat := 131072

/-- A page range shares a page with the configured telemetry region (R73). -/
def Tmr.regionMeets (t : Tmr) (base len : Nat) : Bool :=
  match t.config with
  | some c => pagesMeet c.base c.pages base len
  | none => false

/-- A range shares a page with a range in use, the entry being replaced left out (R73). -/
def State.rangeInUse (s : State) (k : BankId) (g base len : Nat) : Bool :=
  (s.bank k).overlaps base len (some g) || (s.bank k.other).overlaps base len none || s.tmr.regionMeets base len

/-- Checks 4 and 5 of R72, for a present entry. -/
def State.entryRefused (s : State) (k : BankId) (g base len : Nat) : Option Result :=
  if len = 0 ∨ pagesInDram < base + len then some .length
  else if s.rangeInUse k g base len then some .overlap
  else none

/-- A bank with one directory entry replaced. -/
def Bank.setEntry (x : Bank) (g : Nat) (e : DirEntry) : Bank := { x with directory := writeFrom x.directory g [e] }

/-- WRITE_DIRECTORY, carried out (R72). -/
def State.writeDirectory (payload : List Word) (s : State) : State :=
  match payload with
  | [bank, block, present, b1, b0, l1, l0] =>
    match BankId.ofNumber bank.toNat, flagOfNumber present.toNat with
    | some k, some p =>
      if 63 < block.toNat then s.complete .invalid []
      else
        match s.mmc.protection k with
        | some r => s.complete r []
        | none =>
          if p then
            match s.entryRefused k block.toNat (natOf2 b1 b0) (natOf2 l1 l0) with
            | some r => s.complete r []
            | none =>
              (s.updBank k (·.setEntry block.toNat ⟨true, natOf2 b1 b0, natOf2 l1 l0⟩)).complete .ok []
          else (s.updBank k (·.setEntry block.toNat .absent)).complete .ok []
    | _, _ => s.complete .invalid []
  | _ => s.complete .badRequest []

/-! ### SET_BANK_SHIFT (R74) -/

/-- SET_BANK_SHIFT, carried out (R74). -/
def State.setBankShift (payload : List Word) (s : State) : State :=
  match payload with
  | [bank, shift] =>
    match BankId.ofNumber bank.toNat with
    | some k =>
      match s.mmc.protection k with
      | some r => s.complete r []
      | none =>
        if shift.toNat < 8 ∨ 24 < shift.toNat then s.complete .invalid []
        else (s.updBank k fun x => { x with shift := shift.toNat }).complete .ok []
    | none => s.complete .invalid []
  | _ => s.complete .badRequest []

/-! ### WRITE_MATRIX and READ_MATRIX (R75 to R77) -/

/-- The bank of a request on rows, where its block, first row and row count are in range (check 1 of R75
and R77). -/
def rowFields (bank block first count : Word) : Option BankId :=
  if block.toNat ≤ 63 ∧ first.toNat ≤ 1023 ∧ 1 ≤ count.toNat ∧ count.toNat ≤ 4 then BankId.ofNumber bank.toNat
  else none

/-- Rows beyond the entry's storage (check 5 of R75, R77). -/
def DirEntry.rowsOutside (e : DirEntry) (first count : Nat) : Bool := e.pages * 4096 < (first + count) * 512

/-- A burst of the host channel for one row of a column block (R70, R76, R77). -/
def rowBurst (e : DirEntry) (k : BankId) (g row : Nat) (write : Option (List Word)) : Burst :=
  { who := .hostMatrix, place := rowPlace e.base row, write := write, bank := k, block := g, row := row,
    dropped := false }

/-- The request in execution goes on with its bursts, the first presented at once (R67, R76, R77, R163). -/
def State.transfer (s : State) (bursts : List Burst) (kind : TransferKind) : State :=
  (s.setJob (.transfer bursts bursts.length [] kind)).presentHost

/-- The bursts of a WRITE_MATRIX: one per row, ascending (R76). -/
def writeBursts (e : DirEntry) (k : BankId) (g first count : Nat) (coefficients : List Word) : List Burst :=
  (rowsOf count coefficients).mapIdx fun i ws => rowBurst e k g (first + i) (some ws)

/-- The bursts of a READ_MATRIX: one per row, ascending (R77). -/
def readBursts (e : DirEntry) (k : BankId) (g first count : Nat) : List Burst :=
  (List.range count).map fun i => rowBurst e k g (first + i) none

/-- WRITE_MATRIX, carried out (R75, R76). -/
def State.writeMatrix (payload : List Word) (s : State) : State :=
  match payload with
  | bank :: block :: first :: count :: coefficients =>
    if 1024 < coefficients.length then s.complete .badRequest []
    else
      match rowFields bank block first count with
      | some k =>
        let e := s.entry k block.toNat
        match s.mmc.protection k with
        | some r => s.complete r []
        | none =>
          if e.present = false then s.complete .notPresent []
          else if e.rowsOutside first.toNat count.toNat then s.complete .length []
          else if coefficients.length ≠ 256 * count.toNat then s.complete .badRequest []
          else s.transfer (writeBursts e k block.toNat first.toNat count.toNat coefficients) .writeMatrix
      | none => s.complete .invalid []
  | _ => s.complete .badRequest []

/-- READ_MATRIX, carried out (R77). -/
def State.readMatrix (payload : List Word) (s : State) : State :=
  match payload with
  | [bank, block, first, count] =>
    match rowFields bank block first count with
    | some k =>
      let e := s.entry k block.toNat
      if e.present = false then s.complete .notPresent []
      else if e.rowsOutside first.toNat count.toNat then s.complete .length []
      else s.transfer (readBursts e k block.toNat first.toNat count.toNat) .readMatrix
    | none => s.complete .invalid []
  | _ => s.complete .badRequest []

/-! ### SWAP_BANK and CANCEL_SWAP (R78, R79, R82) -/

/-- SWAP_BANK, carried out (R78, R79). -/
def State.swapBank (payload : List Word) (s : State) : State :=
  match payload with
  | [target] =>
    match BankId.ofNumber target.toNat with
    | some k =>
      if k = s.mmc.active then s.complete .invalid []
      else if s.mmc.swap.isSome then s.complete .pending []
      else
        match (s.bank k).tooShort s.pagesNeeded with
        | some g => s.complete .length (word1 g)
        | none =>
          if s.running then (s.updMmc fun m => { m with swap := some k }).complete .accepted []
          else (s.updMmc fun m => { m with active := k }).complete .ok []
    | none => s.complete .invalid []
  | _ => s.complete .badRequest []

/-- CANCEL_SWAP, carried out (R82). -/
def State.cancelSwap (payload : List Word) (s : State) : State :=
  match payload with
  | [] =>
    if s.mmc.swap.isSome then (s.updMmc fun m => { m with swap := none }).complete .ok []
    else s.complete .wrongState []
  | _ => s.complete .badRequest []

end Sys2Proof.Machine
end

