-- ==== Sys2Proof/Machine/TelemetryRequests.lean ====
section
/-! DEFINITION. The requests of the telemetry recorder: SET_TELEMETRY, TELEMETRY_ENABLE, READ_TELEMETRY,
RELEASE_TELEMETRY (R151, R154, R163, R164). -/

namespace Sys2Proof.Machine

/-! ### SET_TELEMETRY (R151) -/

/-- The configuration a payload names, where every field is in range (check 2 of R151). -/
def telemetryFields (base pages : Nat) (sections decimation mode threshold : Word) : Option TelemetryConfig :=
  match Sections.ofMask sections.toNat, TelemetryMode.ofNumber mode.toNat with
  | some x, some m =>
    if base < pagesInDram ∧ 1 ≤ pages ∧ pages ≤ pagesInDram ∧ 1 ≤ decimation.toNat ∧
        decimation.toNat ≤ 1024 then
      some ⟨base, pages, x, decimation.toNat, m, threshold.toNat⟩
    else none
  | _, _ => none

/-- An accepted configuration: the whole replaced, the store emptied, a record in writing cut (R151). -/
def State.configure (s : State) (c : TelemetryConfig) : State :=
  s.cutRecord.updTmr fun t => { t with config := some c, unread := [], geometry := none, nextSlot := 0 }

/-- SET_TELEMETRY, carried out (R151). -/
def State.setTelemetry (payload : List Word) (s : State) : State :=
  match payload with
  | [b1, b0, l1, l0, sections, decimation, mode, threshold] =>
    if s.tmr.enabled then s.complete .wrongState []
    else
      match telemetryFields (natOf2 b1 b0) (natOf2 l1 l0) sections decimation mode threshold with
      | some c =>
        if pagesInDram < c.base + c.pages then s.complete .length []
        else if s.mmc.bank0.overlaps c.base c.pages none || s.mmc.bank1.overlaps c.base c.pages none then
          s.complete .overlap []
        else (s.configure c).complete .ok []
      | none => s.complete .invalid []
  | _ => s.complete .badRequest []

/-! ### TELEMETRY_ENABLE (R154) -/

/-- An ENABLE that passes: a record in writing is cut, the store starts again at slot 0, counter, sequence
and counts at 0, frozen cleared (R154). -/
def State.enableStore (s : State) (g : Geometry) : State :=
  s.cutRecord.updTmr fun t =>
    { t with
      geometry := some g, enabled := true, frozen := false, decimated := 0, sequence := 0, unread := [],
      nextSlot := 0, counts := .zero }

/-- TELEMETRY_ENABLE, carried out (R154). -/
def State.telemetryEnable (payload : List Word) (s : State) : State :=
  match payload with
  | [v] =>
    match enableOfNumber v.toNat, s.tmr.config, s.tmr.enabled with
    | none, _, _ => s.complete .invalid []
    | some true, none, _ => s.complete .wrongState []
    | some true, some _, true => s.complete .wrongState []
    | some true, some c, false =>
      let g := s.newGeometry c
      if g.capacity < 2 then s.complete .length []
      else (s.enableStore g).complete .ok (word1 g.slotSize ++ word2 g.capacity)
    | some false, _, _ => (s.updTmr fun t => { t with enabled := false }).complete .ok []
  | _ => s.complete .badRequest []

/-! ### READ_TELEMETRY (R163) -/

/-- The sections a READ_TELEMETRY names (R163, R179). -/
inductive SectionName
  | header
  | slopes
  | residuals
  | commands
  deriving DecidableEq, Repr

def SectionName.ofNumber : Nat → Option SectionName
  | 0 => some .header | 1 => some .slopes | 2 => some .residuals | 3 => some .commands | _ => none

/-- A section is in a record: its layout has it and the record does not mark it absent (check 3 of R163). -/
def SectionName.carried (n : SectionName) (x : Sections) : Bool :=
  match n with
  | .header => true
  | .slopes => x.slopes
  | .residuals => x.residuals
  | .commands => x.commands

/-- The first word of a section in a record (R152). -/
def SectionName.start (n : SectionName) (x : Sections) (g : Geometry) : Nat :=
  match n with
  | .header => 0
  | .slopes => headerLength
  | .residuals => headerLength + slopesLength x g
  | .commands => headerLength + slopesLength x g + residualsLength x g

/-- The length of a section in words (R152, R163). -/
def SectionName.length (n : SectionName) (x : Sections) (g : Geometry) : Nat :=
  match n with
  | .header => headerLength
  | .slopes => slopesLength x g
  | .residuals => residualsLength x g
  | .commands => commandsLength x g

/-- The bursts of a record's slot that hold its words `start` to `start + count − 1` (R163). -/
def telemetryBursts (c : TelemetryConfig) (g : Geometry) (slot start count : Nat) : List Burst :=
  (List.range ((start + count - 1) / 256 + 1 - start / 256)).map fun i =>
    { who := .hostTelemetry, place := slotPlace c g slot + start / 256 + i, write := none, bank := .zero,
      block := 0, row := start / 256 + i, dropped := false }

/-- A READ_TELEMETRY that passes its checks: the record is under read while its bursts are read (R163). -/
def State.readRecord (s : State) (c : TelemetryConfig) (g : Geometry) (slot start count : Nat) : State :=
  (s.updTmr fun t => { t with underRead := some slot }).transfer (telemetryBursts c g slot start count)
    (.readTelemetry (start % 256) count)

/-- READ_TELEMETRY, carried out (R163). -/
def State.readTelemetry (payload : List Word) (s : State) : State :=
  match payload with
  | [o1, o0, sec, offset, count] =>
    match SectionName.ofNumber sec.toNat with
    | some n =>
      if count.toNat < 1 ∨ 2048 < count.toNat then s.complete .invalid []
      else
        match s.tmr.unread[natOf2 o1 o0]?, s.tmr.config, s.tmr.geometry with
        | some r, some c, some g =>
          if n.carried r.sections = false then s.complete .invalid []
          else if n.length c.sections g < offset.toNat + count.toNat then s.complete .invalid []
          else s.readRecord c g r.slot (n.start c.sections g + offset.toNat) count.toNat
        | _, _, _ => s.complete .empty []
    | none => s.complete .invalid []
  | _ => s.complete .badRequest []

/-! ### RELEASE_TELEMETRY (R164) -/

/-- RELEASE_TELEMETRY, carried out (R164). -/
def State.releaseTelemetry (payload : List Word) (s : State) : State :=
  match payload with
  | [n1, n0] =>
    let removed := min (natOf2 n1 n0) s.tmr.unread.length
    (s.updTmr fun t => { t with unread := t.unread.drop removed }).complete .ok
      (word2 removed ++ word2 (s.tmr.unread.length - removed))
  | _ => s.complete .badRequest []

end Sys2Proof.Machine
end

