-- ==== Sys2Proof/Machine/Serve.lean ====
section
/-! DEFINITION. What the control link port does after every event: it takes the requests that wait into
execution, one at a time and in order, and gives a free transmitter what there is to send (R169, R173).
Every meaning of a command stands inside `act`, `ringAct` or `request`. -/

namespace Sys2Proof.Machine

/-! ### Execution (R169, R181) -/

/-- The request in execution carried out by the block that owns its code, the code being its place in the
summary of requests (R181); a code that names no kind gives BAD_REQUEST (R169). -/
def State.carryOut (code : Nat) (payload : List Word) (s : State) : State :=
  match code with
  | 0 => State.identify payload s
  | 1 => State.readStatus payload s
  | 2 => State.readCounters payload s
  | 3 => State.clearCounters payload s
  | 4 => State.setNotices payload s
  | 5 => State.requestReset payload s
  | 6 => State.setSensor payload s
  | 7 => State.readLinkStatus payload s
  | 8 => State.readFrameRecords payload s
  | 9 => State.setTiming payload s
  | 10 => State.setSlice payload s
  | 11 => State.setLoop payload s
  | 12 => State.setTrip payload s
  | 13 => State.writeDirectory payload s
  | 14 => State.setBankShift payload s
  | 15 => State.writeMatrix payload s
  | 16 => State.readMatrix payload s
  | 17 => State.swapBank payload s
  | 18 => State.cancelSwap payload s
  | 19 => State.writeActuators payload s
  | 20 => State.writePairs payload s
  | 21 => State.applyParameters payload s
  | 22 => State.cancelApply payload s
  | 23 => State.presetCommands payload s
  | 24 => State.readActuators payload s
  | 25 => State.ringJoin payload s
  | 26 => State.ringLeave payload s
  | 27 => State.ringTransmit payload s
  | 28 => State.setTelemetry payload s
  | 29 => State.telemetryEnable payload s
  | 30 => State.readTelemetry payload s
  | 31 => State.releaseTelemetry payload s
  | _ => s.complete .badRequest []

/-- The head of the request queue is taken into execution and carried out, where it may start (R169). -/
def State.serveHead (s : State) : State :=
  match s.clp.requests with
  | r :: rest => if s.mayStart then State.carryOut r.code r.payload (s.start r rest) else s
  | [] => s

/-- Up to `n` waiting requests, each taken when the one before it is complete (R169). -/
def State.serve : Nat → State → State
  | 0, s => s
  | n + 1, s => State.serve n s.serveHead

/-- Every waiting request that may start, in order (R169). -/
def State.serveAll (s : State) : State := State.serve s.clp.requests.length s

/-- What follows every event at the same moment: the waiting requests that may start are carried out, a free
transmitter takes what there is to send, and a request that waited for the place in the reply queue this
frees is carried out (R169, R170, R173; log entry 17). -/
def State.settle (s : State) : State := s.serveAll.transmit.serveAll

/-! ### The shape of a command -/

/-- An event's effect and what follows it. While a hard reset lasts the blocks are held at their reset
values and the event changes nothing (R62, R173, R178; log entry 18). -/
def act (f : State → State) (s : State) : Host.Outcome State Fault Refusal :=
  .next (if s.inReset then s else (f s).settle)

/-- A ring code's effect. The port passes codes through while a hard reset lasts, in BYPASS (R150). -/
def ringAct (f : State → State) (s : State) : Host.Outcome State Fault Refusal :=
  .next (if s.inReset then f s else (f s).settle)

/-- A request row: the good request arrives whole (R168), and is taken into execution as soon as R169 lets it
(R178; log entry 4). More than 2,048 payload words are no message (R166). -/
def request (code : Nat) (tag : Word) (payload : List Word) (s : State) : Host.Outcome State Fault Refusal :=
  act (fun s => if payload.length ≤ 2048 then s.updClp (·.takeRequest ⟨code, tag, payload⟩) else s) s

/-- One tick of time and what follows it. While a hard reset lasts the timebase does not count (R51, R62). -/
def State.timePasses (s : State) : State := if s.inReset then s else s.tickPasses.settle

end Sys2Proof.Machine
end

