-- ==== Sys2Proof/Machine/Events.lean ====
section
/-! DEFINITION. The meanings of the commands that are events: codes received on the links and the ring, the
arbiters, timers and bursts, the end of a pass, a send or a message, the resets. -/

namespace Sys2Proof.Machine

/-! ### Sensor links (R4 to R17) -/

/-- SENSOR_IDLE_IN_HUNT (R5): an IDLE on a sensor link. -/
def execSensorIdleInHunt (l : Link) (s : State) : Host.Outcome State Fault Refusal :=
  act (·.sensorIdle l) s

/-- SENSOR_STRAY_CODE (R6): a data word or CLOSE on a sensor link; stray in SYNC. -/
def execSensorStrayCode (l : Link) (c : StrayCode) (s : State) : Host.Outcome State Fault Refusal :=
  act (fun s =>
    match c with
    | .word w => s.updLink l (·.takeWord w)
    | .closeSym => s.updLink l (·.takeClose l)) s

/-- SENSOR_OPEN (R10): an OPEN on a sensor link. -/
def execSensorOpen (l : Link) (s : State) : Host.Outcome State Fault Refusal :=
  act (·.updLink l (·.takeOpen)) s

/-- SENSOR_CLOSE (R15): a CLOSE on a sensor link. -/
def execSensorClose (l : Link) (s : State) : Host.Outcome State Fault Refusal :=
  act (·.updLink l (·.takeClose l)) s

/-- SENSOR_LOSS_OF_LINE_ORDER (R7): an ABORT or a code violation on a sensor link. -/
def execSensorLossOfLineOrder (l : Link) (cause : LossCause) (s : State) : Host.Outcome State Fault Refusal :=
  act (·.sensorLoss l cause) s

/-- SENSOR_DATA_WORD (R8): a data word on a sensor link. -/
def execSensorDataWord (l : Link) (w : Word) (s : State) : Host.Outcome State Fault Refusal :=
  act (·.updLink l (·.takeWord w)) s

/-! ### Copies, timers, passes (R30, R31, R51 to R59, R113) -/

/-- COPY_GRANT (R30). -/
def execCopyGrant (s : State) : Host.Outcome State Fault Refusal := act State.grantCopy s

/-- COPY_END (R31). -/
def execCopyEnd (s : State) : Host.Outcome State Fault Refusal := act State.endCopy s

/-- DEADLINE_EXPIRY (R54): the timebase reaches the expiry point of the running deadline timer. Log entry
3. -/
def execDeadlineExpiry (s : State) : Host.Outcome State Fault Refusal :=
  act (fun s =>
    match s.ctu.deadlineAt with
    | some p =>
      if s.ctu.reachable p s.ctu.paceAt then (s.updCtu fun c => { c with timebase := p }).deadlineExpires
      else s
    | none => s) s

/-- PACE_TICK (R58): the timebase reaches the next expiry of the running pace timer. Log entry 3. -/
def execPaceTick (s : State) : Host.Outcome State Fault Refusal :=
  act (fun s =>
    match s.ctu.paceAt with
    | some p =>
      if s.ctu.reachable p s.ctu.deadlineAt then (s.updCtu fun c => { c with timebase := p }).paceExpires p
      else s
    | none => s) s

/-- CYCLE_SYNC_EDGE (R59): a transition of the input, a tick under the EXTERNAL trigger when it is in the
selected direction. -/
def execCycleSyncEdge (e : Edge) (s : State) : Host.Outcome State Fault Refusal :=
  act (fun s =>
    let t := s.updCtu fun c => { c with syncLevel := e == .rising }
    if s.ctu.trigger = .external ∧ s.ctu.edge = e then t.tick else t) s

/-- FILTER_PASS_END (R113). -/
def execFilterPassEnd (s : State) : Host.Outcome State Fault Refusal := act State.endPass s

/-! ### The memory arbiter (R64, R67) -/

/-- BURST_GRANT (R67). -/
def execBurstGrant (s : State) : Host.Outcome State Fault Refusal := act State.grantBurst s

/-- BURST_END (R64). -/
def execBurstEnd (grantFirst : Bool) (errors : List BitError) (s : State) : Host.Outcome State Fault Refusal :=
  match s.inReset, s.mmc.port with
  | false, some b =>
    if burstsInDram ≤ b.place then .fault .noSuchBurst else act (·.endBurst grantFirst errors) s
  | _, _ => act id s

/-! ### The drive ring (R134 to R150) -/

/-- RING_HEAD (R134): a HEAD on ring-in. -/
def execRingHead (s : State) : Host.Outcome State Fault Refusal := ringAct (·.ringReceive .head) s

/-- RING_HEAD_WORD (R148): a data word on ring-in, the head word while a head is open. -/
def execRingHeadWord (w : Word) (s : State) : Host.Outcome State Fault Refusal := ringAct (·.ringReceive (.data w)) s

/-- RING_MARK (R140): a MARK on ring-in. -/
def execRingMark (s : State) : Host.Outcome State Fault Refusal := ringAct (·.ringReceive .mark) s

/-- RING_IDLE (R137): an IDLE on ring-in. -/
def execRingIdle (s : State) : Host.Outcome State Fault Refusal := ringAct (·.ringReceive .idle) s

/-- RING_CODE (R136): any other code on ring-in. -/
def execRingCode (c : OtherCode) (s : State) : Host.Outcome State Fault Refusal :=
  ringAct (fun s =>
    match c with
    | .word w => s.ringReceive (.data w)
    | .openSym => s.ringReceive .openSym
    | .closeSym => s.ringReceive .closeSym
    | .abort => s.ringReceive .abort) s

/-- RING_CODE_VIOLATION (R142): a code violation on ring-in. -/
def execRingCodeViolation (s : State) : Host.Outcome State Fault Refusal := ringAct (·.ringReceive .violation) s

/-- FRESH_MARK_SENT (R141). -/
def execFreshMarkSent (s : State) : Host.Outcome State Fault Refusal := act State.sendFreshMark s

/-! ### The control link (R167, R168) -/

/-- CONTROL_IDLE_IN_HUNT (R167): an IDLE on the control link. -/
def execControlIdleInHunt (s : State) : Host.Outcome State Fault Refusal := act (·.updClp Clp.takeIdle) s

/-- CONTROL_STRAY_CODE (R167): a data word or CLOSE on the control link; stray in SYNC. -/
def execControlStrayCode (x : StrayCode) (s : State) : Host.Outcome State Fault Refusal :=
  act (fun s =>
    match x with
    | .word w => s.updClp (·.takeWord w)
    | .closeSym => s.updClp Clp.takeClose) s

/-- CONTROL_OPEN (R167): an OPEN on the control link. -/
def execControlOpen (s : State) : Host.Outcome State Fault Refusal := act (·.updClp Clp.takeOpen) s

/-- CONTROL_MESSAGE_CLOSE (R167, R168): a CLOSE on the control link. -/
def execControlMessageClose (s : State) : Host.Outcome State Fault Refusal := act (·.updClp Clp.takeClose) s

/-- CONTROL_LOSS_OF_LINE_ORDER (R167): an ABORT or a code violation on the control link; the two act
alike. -/
def execControlLossOfLineOrder (_cause : LossCause) (s : State) : Host.Outcome State Fault Refusal :=
  act (·.updClp Clp.loseLine) s

/-- CONTROL_DATA_WORD (R167): a data word on the control link. -/
def execControlDataWord (w : Word) (s : State) : Host.Outcome State Fault Refusal := act (·.updClp (·.takeWord w)) s

/-! ### Resets and the transmitter (R62, R173, R177) -/

/-- SOFT_RESET (R177): the CLOSE of the RESET reply has been sent. Without reset in hand and that reply on
the transmit lane the moment has not come, and nothing changes. -/
def execSoftReset (s : State) : Host.Outcome State Fault Refusal :=
  act (fun s =>
    match s.clp.sending with
    | some m => if s.clp.resetInHand ∧ isResetReply m then s.finishMessage else s
    | none => s) s

/-- MESSAGE_SENT (R173): the transmitter finishes its message and takes the arbiter's next choice. -/
def execMessageSent (s : State) : Host.Outcome State Fault Refusal := act State.finishMessage s

/-- HARD_RESET (R62): power-on, or the RESET pin held low. -/
def execHardReset (s : State) : Host.Outcome State Fault Refusal := .next s.hardResetAll

/-- HARD_RESET_END (R173). -/
def execHardResetEnd (s : State) : Host.Outcome State Fault Refusal := .next s.leaveReset

end Sys2Proof.Machine
end

