-- ==== Sys2Proof/Machine/Requests.lean ====
section
/-! DEFINITION. The meanings of the request rows. A row brings its request, which the owning block carries
out as soon as R169 lets it start; how is `State.carryOut`'s, block by block (log entry 4). -/

namespace Sys2Proof.Machine

/-- IDENTIFY (R174). -/
def execIdentify (tag : Word) (payload : List Word) (s : State) : Host.Outcome State Fault Refusal :=
  request 0 tag payload s

/-- READ_STATUS (R175). -/
def execReadStatus (tag : Word) (payload : List Word) (s : State) : Host.Outcome State Fault Refusal :=
  request 1 tag payload s

/-- READ_COUNTERS (R176). -/
def execReadCounters (tag : Word) (payload : List Word) (s : State) : Host.Outcome State Fault Refusal :=
  request 2 tag payload s

/-- CLEAR_COUNTERS (R131). -/
def execClearCounters (tag : Word) (payload : List Word) (s : State) : Host.Outcome State Fault Refusal :=
  request 3 tag payload s

/-- SET_NOTICES (R172). -/
def execSetNotices (tag : Word) (payload : List Word) (s : State) : Host.Outcome State Fault Refusal :=
  request 4 tag payload s

/-- RESET (R177). -/
def execReset (tag : Word) (payload : List Word) (s : State) : Host.Outcome State Fault Refusal :=
  request 5 tag payload s

/-- SET_SENSOR (R13). -/
def execSetSensor (tag : Word) (payload : List Word) (s : State) : Host.Outcome State Fault Refusal :=
  request 6 tag payload s

/-- READ_LINK_STATUS (R25). -/
def execReadLinkStatus (tag : Word) (payload : List Word) (s : State) : Host.Outcome State Fault Refusal :=
  request 7 tag payload s

/-- READ_FRAME_RECORDS (R22). -/
def execReadFrameRecords (tag : Word) (payload : List Word) (s : State) : Host.Outcome State Fault Refusal :=
  request 8 tag payload s

/-- SET_TIMING (R61). -/
def execSetTiming (tag : Word) (payload : List Word) (s : State) : Host.Outcome State Fault Refusal :=
  request 9 tag payload s

/-- SET_SLICE (R135). -/
def execSetSlice (tag : Word) (payload : List Word) (s : State) : Host.Outcome State Fault Refusal :=
  request 10 tag payload s

/-- SET_LOOP (R121). -/
def execSetLoop (tag : Word) (payload : List Word) (s : State) : Host.Outcome State Fault Refusal :=
  request 11 tag payload s

/-- SET_TRIP (R129). -/
def execSetTrip (tag : Word) (payload : List Word) (s : State) : Host.Outcome State Fault Refusal :=
  request 12 tag payload s

/-- WRITE_DIRECTORY (R72). -/
def execWriteDirectory (tag : Word) (payload : List Word) (s : State) : Host.Outcome State Fault Refusal :=
  request 13 tag payload s

/-- SET_BANK_SHIFT (R74). -/
def execSetBankShift (tag : Word) (payload : List Word) (s : State) : Host.Outcome State Fault Refusal :=
  request 14 tag payload s

/-- WRITE_MATRIX (R75). -/
def execWriteMatrix (tag : Word) (payload : List Word) (s : State) : Host.Outcome State Fault Refusal :=
  request 15 tag payload s

/-- READ_MATRIX (R77). -/
def execReadMatrix (tag : Word) (payload : List Word) (s : State) : Host.Outcome State Fault Refusal :=
  request 16 tag payload s

/-- SWAP_BANK (R78). -/
def execSwapBank (tag : Word) (payload : List Word) (s : State) : Host.Outcome State Fault Refusal :=
  request 17 tag payload s

/-- CANCEL_SWAP (R82). -/
def execCancelSwap (tag : Word) (payload : List Word) (s : State) : Host.Outcome State Fault Refusal :=
  request 18 tag payload s

/-- WRITE_ACTUATORS (R101). -/
def execWriteActuators (tag : Word) (payload : List Word) (s : State) : Host.Outcome State Fault Refusal :=
  request 19 tag payload s

/-- WRITE_PAIRS (R103). -/
def execWritePairs (tag : Word) (payload : List Word) (s : State) : Host.Outcome State Fault Refusal :=
  request 20 tag payload s

/-- APPLY_PARAMETERS (R105). -/
def execApplyParameters (tag : Word) (payload : List Word) (s : State) : Host.Outcome State Fault Refusal :=
  request 21 tag payload s

/-- CANCEL_APPLY (R107). -/
def execCancelApply (tag : Word) (payload : List Word) (s : State) : Host.Outcome State Fault Refusal :=
  request 22 tag payload s

/-- PRESET_COMMANDS (R117). -/
def execPresetCommands (tag : Word) (payload : List Word) (s : State) : Host.Outcome State Fault Refusal :=
  request 23 tag payload s

/-- READ_ACTUATORS (R118). -/
def execReadActuators (tag : Word) (payload : List Word) (s : State) : Host.Outcome State Fault Refusal :=
  request 24 tag payload s

/-- RING_JOIN (R138). -/
def execRingJoin (tag : Word) (payload : List Word) (s : State) : Host.Outcome State Fault Refusal :=
  request 25 tag payload s

/-- RING_LEAVE (R143). -/
def execRingLeave (tag : Word) (payload : List Word) (s : State) : Host.Outcome State Fault Refusal :=
  request 26 tag payload s

/-- RING_TRANSMIT (R145). -/
def execRingTransmit (tag : Word) (payload : List Word) (s : State) : Host.Outcome State Fault Refusal :=
  request 27 tag payload s

/-- SET_TELEMETRY (R151). -/
def execSetTelemetry (tag : Word) (payload : List Word) (s : State) : Host.Outcome State Fault Refusal :=
  request 28 tag payload s

/-- TELEMETRY_ENABLE (R154). -/
def execTelemetryEnable (tag : Word) (payload : List Word) (s : State) : Host.Outcome State Fault Refusal :=
  request 29 tag payload s

/-- READ_TELEMETRY (R163). -/
def execReadTelemetry (tag : Word) (payload : List Word) (s : State) : Host.Outcome State Fault Refusal :=
  request 30 tag payload s

/-- RELEASE_TELEMETRY (R164). -/
def execReleaseTelemetry (tag : Word) (payload : List Word) (s : State) : Host.Outcome State Fault Refusal :=
  request 31 tag payload s

/-- UNKNOWN_REQUEST (R169): completed at once with BAD_REQUEST. A code below 32 names a request kind and a
code is eight bits wide (R180), so such a command names no request of this row. -/
def execUnknownRequest (code : Nat) (tag : Word) (payload : List Word) (s : State) :
    Host.Outcome State Fault Refusal :=
  if 32 ≤ code ∧ code < 256 then request code tag payload s else act id s

end Sys2Proof.Machine
end

