-- ==== Sys2Proof/Machine/Dispatch.lean ====
section
/-! DEFINITION. The dispatch: one arm per command, each one direct call of that command's meaning. -/

namespace Sys2Proof.Machine

def exec (i : Instr) (s : State) : Host.Outcome State Fault Refusal :=
  match i with
  | .hardReset => Sys2Proof.Machine.execHardReset s
  | .softReset => Sys2Proof.Machine.execSoftReset s
  | .sensorIdleInHunt link => Sys2Proof.Machine.execSensorIdleInHunt link s
  | .sensorStrayCode link code => Sys2Proof.Machine.execSensorStrayCode link code s
  | .sensorOpen link => Sys2Proof.Machine.execSensorOpen link s
  | .sensorClose link => Sys2Proof.Machine.execSensorClose link s
  | .sensorLossOfLineOrder link cause => Sys2Proof.Machine.execSensorLossOfLineOrder link cause s
  | .copyGrant => Sys2Proof.Machine.execCopyGrant s
  | .copyEnd => Sys2Proof.Machine.execCopyEnd s
  | .deadlineExpiry => Sys2Proof.Machine.execDeadlineExpiry s
  | .paceTick => Sys2Proof.Machine.execPaceTick s
  | .cycleSyncEdge edge => Sys2Proof.Machine.execCycleSyncEdge edge s
  | .burstGrant => Sys2Proof.Machine.execBurstGrant s
  | .burstEnd first errors => Sys2Proof.Machine.execBurstEnd first errors s
  | .filterPassEnd => Sys2Proof.Machine.execFilterPassEnd s
  | .ringHead => Sys2Proof.Machine.execRingHead s
  | .ringHeadWord word => Sys2Proof.Machine.execRingHeadWord word s
  | .ringMark => Sys2Proof.Machine.execRingMark s
  | .ringIdle => Sys2Proof.Machine.execRingIdle s
  | .ringCode code => Sys2Proof.Machine.execRingCode code s
  | .ringCodeViolation => Sys2Proof.Machine.execRingCodeViolation s
  | .controlIdleInHunt => Sys2Proof.Machine.execControlIdleInHunt s
  | .controlStrayCode code => Sys2Proof.Machine.execControlStrayCode code s
  | .controlOpen => Sys2Proof.Machine.execControlOpen s
  | .controlMessageClose => Sys2Proof.Machine.execControlMessageClose s
  | .controlLossOfLineOrder cause => Sys2Proof.Machine.execControlLossOfLineOrder cause s
  | .messageSent => Sys2Proof.Machine.execMessageSent s
  | .unknownRequest code tag payload => Sys2Proof.Machine.execUnknownRequest code tag payload s
  | .identify tag payload => Sys2Proof.Machine.execIdentify tag payload s
  | .readStatus tag payload => Sys2Proof.Machine.execReadStatus tag payload s
  | .readCounters tag payload => Sys2Proof.Machine.execReadCounters tag payload s
  | .clearCounters tag payload => Sys2Proof.Machine.execClearCounters tag payload s
  | .setNotices tag payload => Sys2Proof.Machine.execSetNotices tag payload s
  | .reset tag payload => Sys2Proof.Machine.execReset tag payload s
  | .setSensor tag payload => Sys2Proof.Machine.execSetSensor tag payload s
  | .readLinkStatus tag payload => Sys2Proof.Machine.execReadLinkStatus tag payload s
  | .readFrameRecords tag payload => Sys2Proof.Machine.execReadFrameRecords tag payload s
  | .setTiming tag payload => Sys2Proof.Machine.execSetTiming tag payload s
  | .setSlice tag payload => Sys2Proof.Machine.execSetSlice tag payload s
  | .setLoop tag payload => Sys2Proof.Machine.execSetLoop tag payload s
  | .setTrip tag payload => Sys2Proof.Machine.execSetTrip tag payload s
  | .writeDirectory tag payload => Sys2Proof.Machine.execWriteDirectory tag payload s
  | .setBankShift tag payload => Sys2Proof.Machine.execSetBankShift tag payload s
  | .writeMatrix tag payload => Sys2Proof.Machine.execWriteMatrix tag payload s
  | .readMatrix tag payload => Sys2Proof.Machine.execReadMatrix tag payload s
  | .swapBank tag payload => Sys2Proof.Machine.execSwapBank tag payload s
  | .cancelSwap tag payload => Sys2Proof.Machine.execCancelSwap tag payload s
  | .writeActuators tag payload => Sys2Proof.Machine.execWriteActuators tag payload s
  | .writePairs tag payload => Sys2Proof.Machine.execWritePairs tag payload s
  | .applyParameters tag payload => Sys2Proof.Machine.execApplyParameters tag payload s
  | .cancelApply tag payload => Sys2Proof.Machine.execCancelApply tag payload s
  | .presetCommands tag payload => Sys2Proof.Machine.execPresetCommands tag payload s
  | .readActuators tag payload => Sys2Proof.Machine.execReadActuators tag payload s
  | .ringJoin tag payload => Sys2Proof.Machine.execRingJoin tag payload s
  | .ringLeave tag payload => Sys2Proof.Machine.execRingLeave tag payload s
  | .ringTransmit tag payload => Sys2Proof.Machine.execRingTransmit tag payload s
  | .setTelemetry tag payload => Sys2Proof.Machine.execSetTelemetry tag payload s
  | .telemetryEnable tag payload => Sys2Proof.Machine.execTelemetryEnable tag payload s
  | .readTelemetry tag payload => Sys2Proof.Machine.execReadTelemetry tag payload s
  | .releaseTelemetry tag payload => Sys2Proof.Machine.execReleaseTelemetry tag payload s
  | .sensorDataWord link word => Sys2Proof.Machine.execSensorDataWord link word s
  | .controlDataWord word => Sys2Proof.Machine.execControlDataWord word s
  | .freshMarkSent => Sys2Proof.Machine.execFreshMarkSent s
  | .hardResetEnd => Sys2Proof.Machine.execHardResetEnd s

end Sys2Proof.Machine
end

