-- ==== Sys2Proof/Safety.lean ====
section
/-! DEFINITION. What a safe run of the block is, in the words the statements use: a request whose turn it is,
what its reply leaves, and the invariants the manual claims of every moment. -/

namespace Sys2Proof.Machine

/-! ### Requests -/

/-- A request with this payload is taken into execution as soon as it arrives: no reset lasts, no request
waits or is in execution, reset in hand is clear, the reply queue has room and holds no pending entry, and
the payload fits a message (R166, R169, R170, R178). -/
def State.Ready (s : State) (payload : List Word) : Prop :=
  s.inReset = false ∧ s.clp.requests = [] ∧ s.clp.inExec = none ∧ s.clp.resetInHand = false ∧
    s.clp.replies.length < 16 ∧ ReplyEntry.pending ∉ s.clp.replies ∧ payload.length ≤ 2048

/-- The request is in execution, and its pending reply stands at the tail of the reply queue (R169). -/
def State.started (s : State) (code : Nat) (tag : Word) (payload : List Word) (job : Job) : State :=
  { s with clp := { s.clp with
      inExec := some ⟨⟨code, tag, payload⟩, job⟩
      replies := s.clp.replies ++ [.pending] } }

/-- The request has been carried out: its reply stands at the tail of the reply queue (R169, R170). -/
def State.answered (s : State) (code : Nat) (tag : Word) (result : Result) (payload : List Word) : State :=
  { s with clp := { s.clp with replies := s.clp.replies ++ [.ready ⟨code, tag, result, payload⟩] } }

/-- The words a request with fixed fields alone carries (R169, R181); none for a code whose payload length
depends on a count, or that names no request. -/
def fixedWords : Nat → Option Nat
  | 0 | 1 | 2 | 3 | 5 | 18 | 21 | 22 | 25 | 26 => some 0
  | 4 | 7 | 11 | 17 | 27 | 29 => some 1
  | 12 | 14 | 31 => some 2
  | 8 | 10 | 24 => some 3
  | 16 => some 4
  | 9 | 30 => some 5
  | 6 => some 6
  | 13 => some 7
  | 28 => some 8
  | _ => none

/-! ### The ring -/

/-- The code a ring row brings to ring-in (R134, R136, R140, R142, R148). -/
def ringCodeOf : Instr → Option Code
  | .ringHead => some .head
  | .ringHeadWord w => some (.data w)
  | .ringMark => some .mark
  | .ringIdle => some .idle
  | .ringCode (.word w) => some (.data w)
  | .ringCode .openSym => some .openSym
  | .ringCode .closeSym => some .closeSym
  | .ringCode .abort => some .abort
  | .ringCodeViolation => some .violation
  | _ => none

/-! ### Invariants -/

/-- A sensor link's packet buffers, delivery order, receiver and frame record queue agree: at most 16 records
(R21); `order` names exactly the DELIVERED buffers, each once (R9); exactly the buffer being stored into is
FILLING, and storing happens in RECEIVING (R9, R10); at most 261 words a buffer (R10); the receiver is
DISABLED exactly while the sensor is not enabled (R4, R14). -/
def LinkState.Consistent (x : LinkState) : Prop :=
  x.queue.length ≤ 16 ∧ x.order.Nodup ∧
    (∀ k, k ∈ x.order ↔ (x.packet k).state = .delivered) ∧
    (∀ k, (x.packet k).state = .filling ↔ x.storing = some k) ∧
    (x.storing ≠ none → x.receiver = .receiving) ∧
    (∀ k, (x.packet k).words.length ≤ 261) ∧
    (x.receiver = .disabled ↔ x.entry.enabled = false)

/-- Every sensor link is consistent. -/
def State.LinksConsistent (s : State) : Prop := ∀ l : Link, (s.link l).Consistent

/-- At most one slope buffer is OPEN (R27), and the deadline timer runs only while one is (R53, R54). -/
def State.OneOpen (s : State) : Prop :=
  ¬((s.desc .a).state = .opened ∧ (s.desc .b).state = .opened) ∧
    (s.ctu.deadlineAt ≠ none → (s.desc .a).state = .opened ∨ (s.desc .b).state = .opened)

/-- Every present directory entry of both banks lies inside the DRAM with at least one page; no two share a
page; none shares a page with the configured telemetry region (R72, R73, R151). -/
def State.PagesDisjoint (s : State) : Prop :=
  (∀ k g, (s.entry k g).present = true →
    1 ≤ (s.entry k g).pages ∧ (s.entry k g).base + (s.entry k g).pages ≤ 131072) ∧
    (∀ k g k' g', (k, g) ≠ (k', g') → (s.entry k g).present = true → (s.entry k' g').present = true →
      pagesMeet (s.entry k g).base (s.entry k g).pages (s.entry k' g').base (s.entry k' g').pages = false) ∧
    (∀ c k g, s.tmr.config = some c → (s.entry k g).present = true →
      pagesMeet (s.entry k g).base (s.entry k g).pages c.base c.pages = false)

/-- An accumulator value lies within an actuator's limits (R100). -/
def ActuatorParams.Within (p : ActuatorParams) (x : Int) : Prop := p.low ≤ x ∧ x ≤ p.high

/-- Every accumulator lies within its limits (R100), with what keeps it so: shadow limits are in order
(R101), the values of a running pass lie within the limits they will be written under (R106, R109), and
neither a pass nor an engine with a cycle outlives the entry to STOPPED (R98, R108). -/
def State.WithinLimits (s : State) : Prop :=
  (∀ r : ActiveRecord, r ∈ s.tfu.active.toList → r.params.Within r.acc) ∧
    (∀ p : ActuatorParams, p ∈ s.tfu.shadow.toList → p.low ≤ p.high) ∧
    (∀ p, s.tfu.pass = some p → s.running = true ∧
      ∀ (i : Nat) (v : Int) (r : ActiveRecord), p.values[i]? = some v → s.tfu.active.toList[i]? = some r → r.params.Within v) ∧
    (s.running = true ∨ s.rce.state = .idle ∨ s.rce.state = .draining)

/-- The outbound slice queue holds at most two slices, each tag before the next (R147). -/
def Drp.QueueAscends (d : Drp) : Prop :=
  d.queue.length ≤ 2 ∧ d.queue.Pairwise fun x y => frameBefore x.tag y.tag = true

/-- The unread list occupies a run of consecutive slots, in the turn that wraps from the last slot to slot 0,
which ends just before the next slot; a record in writing is in the next slot, and both together never
exceed the capacity. A store without geometry holds no record (R151, R155). -/
def Tmr.SlotsRun (t : Tmr) : Prop :=
  match t.geometry with
  | some g =>
    t.nextSlot < g.capacity ∧
      (∀ (i : Nat) (r : UnreadRecord), t.unread[i]? = some r →
        r.slot < g.capacity ∧ (r.slot + (t.unread.length - i)) % g.capacity = t.nextSlot) ∧
      (∀ w, t.writing = some w → w.slot = t.nextSlot) ∧
      t.unread.length + (if t.writing = none then 0 else 1) ≤ g.capacity
  | none => t.unread = [] ∧ t.writing = none

/-- The control link's queues: at most 8 requests, at most 16 replies, at most one pending entry and none
without a request in execution (R168 to R170); each notice kind at most once, all in the mask (R171,
R172); at most 2,053 words received (R167). -/
def Clp.Bounded (c : Clp) : Prop :=
  c.requests.length ≤ 8 ∧ c.replies.length ≤ 16 ∧ c.replies.count .pending ≤ 1 ∧
    (c.inExec = none → ReplyEntry.pending ∉ c.replies) ∧
    (c.notices.map fun n => n.payload.kind).Nodup ∧
    (∀ n ∈ c.notices, inMask c.mask n.payload.kind = true) ∧ c.buffer.length ≤ 2053

/-- A buffer whose cycle has begun and has no outcome yet (R132). -/
def Descriptor.owesOutcome (d : Descriptor) : Bool := d.state != .free && d.outcome == none

/-- How many buffers owe an outcome: 0, 1 or 2 (R132). -/
def State.owing (s : State) : Nat :=
  (if (s.desc .a).owesOutcome then 1 else 0) + (if (s.desc .b).owesOutcome then 1 else 0)

/-- The equation of R132, modulo 2^32. -/
def State.Balanced (s : State) : Prop :=
  s.lsv.counts.opened = s.lsv.counts.completed + s.lsv.counts.skippedMissing + s.lsv.counts.skippedMemory +
    s.lsv.counts.abandoned + BitVec.ofNat 32 s.owing

/-- The equation of R132 with what keeps it: a RETIRING buffer has its outcome (R45); an engine with a cycle
is attached to a buffer that owes its outcome, CLOSED if it is DELIVERING (R87, R92); a running pass
belongs to a CLOSED buffer the engine has let go of and that owes its outcome (R94); both buffers are FREE
while the loop is STOPPED (R48). -/
def State.CyclesAccounted (s : State) : Prop :=
  s.Balanced ∧
    (∀ x, (s.desc x).state = .retiring → (s.desc x).outcome ≠ none) ∧
    (s.rce.state = .idle ∨ s.rce.state = .draining ∨
      ∃ x, s.rce.attached = some x ∧ (s.desc x).owesOutcome = true ∧ (s.desc x).relation = .attached ∧
        (s.rce.state = .delivering → (s.desc x).state = .closed)) ∧
    (∀ p, s.tfu.pass = some p → (s.desc p.buffer).state = .closed ∧ (s.desc p.buffer).outcome = none ∧
      (s.desc p.buffer).relation = .done) ∧
    (s.running = false → (s.desc .a).state = .free ∧ (s.desc .b).state = .free)

/-- The loop is running, the part is not held in a hard reset, and the write port is free. -/
def State.Assembling (s : State) : Prop := s.inReset = false ∧ s.running = true ∧ s.sau.copy = none

end Sys2Proof.Machine
end

