-- ==== Sys2Proof/WellFormed.lean ====
section
/-! DEFINITION. Which commands the links can bring at all. A request has at most 2,048 payload words (R166),
and an UNKNOWN_REQUEST is one whose eight-bit code names no request kind (R180). -/

namespace Sys2Proof

/-- The longest payload of a control-link message (R166). -/
def maxPayload : Nat := 2048

/-- The codes that name no request kind: 32 to 255 (R180, R181). -/
def unknownCode (code : Nat) : Bool := 32 ≤ code && code < 256

/-- The request a command carries, if it is one of the request rows: its code (R181), tag and payload. -/
def Instr.request? : Instr → Option (Nat × Word × List Word)
  | .unknownRequest c t p => some (c, t, p)
  | .identify t p => some (0, t, p)
  | .readStatus t p => some (1, t, p)
  | .readCounters t p => some (2, t, p)
  | .clearCounters t p => some (3, t, p)
  | .setNotices t p => some (4, t, p)
  | .reset t p => some (5, t, p)
  | .setSensor t p => some (6, t, p)
  | .readLinkStatus t p => some (7, t, p)
  | .readFrameRecords t p => some (8, t, p)
  | .setTiming t p => some (9, t, p)
  | .setSlice t p => some (10, t, p)
  | .setLoop t p => some (11, t, p)
  | .setTrip t p => some (12, t, p)
  | .writeDirectory t p => some (13, t, p)
  | .setBankShift t p => some (14, t, p)
  | .writeMatrix t p => some (15, t, p)
  | .readMatrix t p => some (16, t, p)
  | .swapBank t p => some (17, t, p)
  | .cancelSwap t p => some (18, t, p)
  | .writeActuators t p => some (19, t, p)
  | .writePairs t p => some (20, t, p)
  | .applyParameters t p => some (21, t, p)
  | .cancelApply t p => some (22, t, p)
  | .presetCommands t p => some (23, t, p)
  | .readActuators t p => some (24, t, p)
  | .ringJoin t p => some (25, t, p)
  | .ringLeave t p => some (26, t, p)
  | .ringTransmit t p => some (27, t, p)
  | .setTelemetry t p => some (28, t, p)
  | .telemetryEnable t p => some (29, t, p)
  | .readTelemetry t p => some (30, t, p)
  | .releaseTelemetry t p => some (31, t, p)
  | .hardReset | .softReset | .sensorIdleInHunt _ | .sensorStrayCode _ _ | .sensorOpen _ | .sensorClose _
  | .sensorLossOfLineOrder _ _ | .copyGrant | .copyEnd | .deadlineExpiry | .paceTick | .cycleSyncEdge _
  | .burstGrant | .burstEnd _ _ | .filterPassEnd | .ringHead | .ringHeadWord _ | .ringMark | .ringIdle
  | .ringCode _ | .ringCodeViolation | .controlIdleInHunt | .controlStrayCode _ | .controlOpen
  | .controlMessageClose | .controlLossOfLineOrder _ | .messageSent | .sensorDataWord _ _
  | .controlDataWord _ | .freshMarkSent | .hardResetEnd => none

/-- The payload of a request row fits a message (R166). -/
def Instr.payloadFits (i : Instr) : Bool :=
  match i.request? with
  | some (_, _, p) => p.length ≤ maxPayload
  | none => true

/-- The code of an UNKNOWN_REQUEST names no request kind (R180). -/
def Instr.codeUnknown : Instr → Bool
  | .unknownRequest c _ _ => unknownCode c
  | _ => true

/-- A command the links can bring. -/
def Instr.wellFormed (i : Instr) : Bool := i.payloadFits && i.codeUnknown

end Sys2Proof
end

