-- ==== Sys2Proof/Certificates/Slice0/Obligations.lean ====
section
/-! DEFINITION. The statements the provers prove, in the manual's order of units. Each docstring names the
rules a statement formalises; where a clause is the model's choice it names the log entry. A statement that
says what a shared operation of the machine does says it of every state, so that statements which name that
operation say that too. -/

open Sys2Proof Sys2Proof.Machine

/-! ### The block as a whole -/

/-- A step takes the command at the front of the queue and runs it with the queue's rest (that a queue of
commands stands in the state is the model's form, log entry 1). On an empty queue one tick of the timebase
passes (R51): a timer still due at the present value expires before it, then the timebase rises by one, and
a timer whose expiry point it reaches expires, the deadline timer first, with the reload and the tick of the
pace timer (R54, R58); where no timer is due nothing else changes. While a hard reset lasts a step on an empty
queue changes nothing: no time passes, as R51 and R62 start the timebase from 0 at its end (DEDUCED, log
entry 18). That a step on an empty queue is one tick, and which of two timers due together is first, is the
model's choice (DESIGN CHOICE, log entry 2); what follows a command at its moment (`settle`) is stated below. -/
def Obligations.StepRunsTheFrontCommand : Prop :=
  (∀ (c : Instr) (rest : List Instr) (s : State),
    step { s with pending := c :: rest } = exec c { s with pending := rest } ∧
      Sys2Proof.core.step { s with pending := c :: rest } = exec c { s with pending := rest }) ∧
  (∀ s : State, s.pending = [] →
    (s.inReset = true → step s = .next s) ∧
    (s.inReset = false →
      (let u := s.expireDue
       step s = .next (State.settle (State.expireDue
         { u with ctu := { u.ctu with timebase := u.ctu.timebase + 1 } }))) ∧
      (s.ctu.deadlineAt ≠ some s.ctu.timebase → s.ctu.paceAt ≠ some s.ctu.timebase →
        s.ctu.deadlineAt ≠ some (s.ctu.timebase + 1) → s.ctu.paceAt ≠ some (s.ctu.timebase + 1) →
        step s = .next (State.settle { s with ctu := { s.ctu with timebase := s.ctu.timebase + 1 } }) ∧
        (s.clp.sending ≠ none → s.clp.requests = [] →
          step s = .next { s with ctu := { s.ctu with timebase := s.ctu.timebase + 1 } })))) ∧
  (∀ u : State, u.expireDue =
    let v : State :=
      if u.ctu.deadlineAt = some u.ctu.timebase then
        State.takeExpiry { u with ctu := { u.ctu with deadlineAt := none } }
      else u
    if v.ctu.paceAt = some v.ctu.timebase then
      State.tick { v with ctu := { v.ctu with
        paceCurrent := v.ctu.pacePending
        paceAt := some (v.ctu.timebase + microseconds v.ctu.pacePending) } }
    else v)

/-- The values the manual states for the end of a hard reset. -/
def Obligations.ResetLeavesTheStatedValues : Prop :=
  let r := State.reset
  (∀ l : Link, (r.link l).receiver = .disabled ∧ (r.link l).entry = ⟨false, 0, 1, 256, .optional⟩ ∧
    (r.link l).buffer0.state = .free ∧ (r.link l).buffer1.state = .free ∧ (r.link l).queue = [] ∧
    (r.link l).current = none ∧ (r.link l).closing = [] ∧ (r.link l).overflow = false ∧
    (r.link l).counts = .zero) ∧
  (∀ x, (r.desc x).tag = 0 ∧ (r.desc x).state = .free ∧ (r.desc x).cause = none ∧
    (r.desc x).relation = .none ∧ (r.desc x).outcome = none ∧ (r.desc x).skip = none ∧
    (∀ l : Link, (r.desc x).sensors[l] = ⟨0, false, false⟩) ∧ (r.desc x).ready = [] ∧
    (r.desc x).markers = 0 ∧ (r.desc x).openedAt = 0 ∧ (r.desc x).closedAt = 0) ∧
  r.sau.lastClosed = none ∧ r.sau.rotation = 7 ∧ r.freeBuffer = some .a ∧ r.sau.copy = none ∧
  r.ctu.timebase = 0 ∧ r.ctu.deadlineAt = none ∧ r.ctu.paceAt = none ∧ r.ctu.paceCurrent = 1000 ∧
  r.ctu.pacePending = 1000 ∧ r.ctu.trigger = .immediate ∧ r.ctu.order = .batch ∧ r.ctu.deadline = 2000 ∧
  r.ctu.edge = .rising ∧
  (∀ place i, Memory.eccWritten r.mmc.dram place i = false) ∧
  (∀ k g, (r.entry k g).present = false ∧ (r.entry k g).base = 0 ∧ (r.entry k g).pages = 0) ∧
  (∀ k, (r.bank k).shift = 14) ∧ r.mmc.active = .zero ∧ r.mmc.swap = none ∧ r.mmc.corrected = 0 ∧
  r.mmc.uncorrectable = 0 ∧ r.mmc.port = none ∧ r.mmc.engineWaits = none ∧ r.mmc.recorderWaits = none ∧
  r.mmc.hostWaits = none ∧
  r.rce.state = .idle ∧ r.rce.attached = none ∧ r.rce.bank = none ∧ r.rce.shift = none ∧
  r.rce.attachedAt = none ∧ r.rce.block = none ∧ (∀ p ∈ r.rce.sums.toList, p = 0) ∧
  (∀ a ∈ r.tfu.active.toList, a = ⟨⟨false, 0, 65536, 0, 0⟩, 0, 0⟩) ∧
  (∀ a ∈ r.tfu.shadow.toList, a = ⟨false, 0, 65536, 0, 0⟩) ∧
  (∀ p ∈ r.tfu.activePairs.slots.toList, p = ⟨0, 1, 65535⟩) ∧ r.tfu.activePairs.count = 0 ∧
  (∀ p ∈ r.tfu.shadowPairs.slots.toList, p = ⟨0, 1, 65535⟩) ∧ r.tfu.shadowPairs.count = 0 ∧
  r.tfu.applyPending = false ∧ r.tfu.applyDue = false ∧ r.tfu.pass = none ∧
  r.lsv.loop = .stopped ∧ r.lsv.tripCause = none ∧ r.lsv.tripFrame = 0 ∧ r.lsv.skips = 0 ∧
  r.lsv.skipLimit = 0 ∧ r.lsv.saturationLimit = 0 ∧ r.lsv.counts = .zero ∧ r.lsv.stopInProgress = false ∧
  r.drp.settings = ⟨0, 1, 0⟩ ∧ r.drp.state = .bypass ∧ r.drp.holding = none ∧ r.drp.queue = [] ∧
  r.drp.transmit = false ∧ r.drp.train = none ∧ r.drp.markPassed = false ∧ r.drp.headSeen = false ∧
  r.drp.headOpen = false ∧ r.drp.leaveRequested = false ∧ r.drp.counts = .zero ∧
  r.tmr.config = none ∧ r.tmr.enabled = false ∧ r.tmr.frozen = false ∧ r.tmr.geometry = none ∧
  r.tmr.unread = [] ∧ r.tmr.writing = none ∧ r.tmr.underRead = none ∧ r.tmr.decimated = 0 ∧
  r.tmr.sequence = 0 ∧ r.tmr.counts = .zero ∧
  r.clp.receiver = .hunt ∧ r.clp.buffer = [] ∧ r.clp.requests = [] ∧ r.clp.inExec = none ∧
  r.clp.replies = [] ∧ r.clp.notices = [] ∧ (∀ k : NoticeKind, inMask r.clp.mask k = true) ∧
  r.clp.resetInHand = false ∧ r.clp.sending = none ∧ r.clp.receiveErrors = 0 ∧ r.clp.syncLosses = 0 ∧
  r.clp.queueFull = 0 ∧ r.clp.dropped = 0 ∧ r.clp.lastReset = .hard ∧ r.clp.resetPoint = 0 ∧
  r.controlOut = [.abort]

/-- The state after a hard reset meets every invariant stated below. -/
def Obligations.ResetMeetsTheInvariants : Prop :=
  State.reset.LinksConsistent ∧ State.reset.OneOpen ∧ State.reset.PagesDisjoint ∧ State.reset.WithinLimits ∧
    State.reset.drp.QueueAscends ∧ State.reset.tmr.SlotsRun ∧ State.reset.clp.Bounded ∧
    State.reset.CyclesAccounted ∧ Memory.wf State.reset.mmc.dram

/-! ### Sensor links -/

/-- A code on a sensor link is always taken, and changes only that link and the notice list, before what
follows every event at the control link port (`settle`). -/
def Obligations.SensorCodesTouchOnlyTheirLink : Prop :=
  ∀ (l : Link) (c : Instr) (s : State), s.inReset = false →
    (c = .sensorIdleInHunt l ∨ c = .sensorOpen l ∨ c = .sensorClose l ∨ c = .sensorStrayCode l .closeSym ∨
      (∃ w, c = .sensorDataWord l w) ∨ (∃ w, c = .sensorStrayCode l (.word w)) ∨
      (∃ k, c = .sensorLossOfLineOrder l k)) →
    ∃ t : State, exec c s = .next t.settle ∧ (∀ k, k ≠ l → t.link k = s.link k) ∧
      t = { s with links := t.links, clp := { s.clp with notices := t.clp.notices } }

/-- What IDLE, OPEN, a data word and CLOSE do in each receiver state: the first IDLE in HUNT brings SYNC and
the notice (R5); OPEN in SYNC begins storing into packet buffer 0 or else 1, or discards an overrun, and in
RECEIVING cuts a packet short (R6, R8, R10, R11); CLOSE ends a discarded packet, and in SYNC is counted as
stray (R6, R8); a data word in RECEIVING is stored up to the 261st and taken into the count and the CRC, and
is counted as stray in SYNC (R6, R8, R10). That a row's code does in every receiver state what R4 to R8 say
of that code, so that SENSOR_STRAY_CODE of a word is SENSOR_DATA_WORD and SENSOR_IDLE_IN_HUNT outside HUNT is
an IDLE, is read from the rows' rules (DEDUCED, log entry 11). -/
def Obligations.SensorReceiverTakesEachCode : Prop :=
  ∀ (l : Link) (s : State), s.inReset = false →
    exec (.sensorIdleInHunt l) s = .next
      (if (s.link l).receiver = .hunt then
        ((s.updLink l fun x => { x with receiver := .sync }).raise (.linkState l none)).settle
      else s.settle) ∧
    exec (.sensorOpen l) s = .next (s.updLink l fun x =>
      if x.receiver = .sync ∨ (x.receiver = .receiving ∧ x.storing = none) then
        if x.buffer0.state = .free then
          { x with receiver := .receiving, storing := some .zero, line := .start, buffer0 := ⟨.filling, []⟩ }
        else if x.buffer1.state = .free then
          { x with receiver := .receiving, storing := some .one, line := .start, buffer1 := ⟨.filling, []⟩ }
        else
          { x with receiver := .receiving, storing := none, line := .start,
                   counts := { x.counts with overruns := x.counts.overruns + 1 } }
      else if x.receiver = .receiving then
        { x with
          line := .start
          buffer0 := if x.storing = some .zero then ⟨.filling, []⟩ else x.buffer0
          buffer1 := if x.storing = some .one then ⟨.filling, []⟩ else x.buffer1
          counts := { x.counts with framing := x.counts.framing + 1 } }
      else x).settle ∧
    (∀ w, exec (.sensorDataWord l w) s = exec (.sensorStrayCode l (.word w)) s ∧
      exec (.sensorDataWord l w) s = .next (s.updLink l fun x =>
        if x.receiver = .sync then { x with counts := { x.counts with framing := x.counts.framing + 1 } }
        else if x.receiver = .receiving ∧ x.storing ≠ none then
          { x with
            line := ⟨x.line.count + 1, crcWord x.line.crc w, x.line.crc, w⟩
            buffer0 := if x.storing = some .zero ∧ x.buffer0.words.length < 261 then
              { x.buffer0 with words := x.buffer0.words ++ [w] } else x.buffer0
            buffer1 := if x.storing = some .one ∧ x.buffer1.words.length < 261 then
              { x.buffer1 with words := x.buffer1.words ++ [w] } else x.buffer1 }
        else x).settle) ∧
    ((s.link l).receiver ≠ .receiving ∨ (s.link l).storing = none →
      exec (.sensorStrayCode l .closeSym) s = exec (.sensorClose l) s ∧
      exec (.sensorClose l) s = .next (s.updLink l fun x =>
        if x.receiver = .sync then { x with counts := { x.counts with framing := x.counts.framing + 1 } }
        else if x.receiver = .receiving then { x with receiver := .sync }
        else x).settle)

/-- ABORT or a code violation in SYNC or RECEIVING is a loss of line order: HUNT, the sync loss count and, for
ABORT, the abort count up by one, the packet being stored lost and its buffer FREE, the notice raised, and a
current record closed with SYNC_LOST (R4, R5, R7, R19, R24), and with ABORTED where ABORT ended the storing of
a packet, not between packets or while one is discarded (DEDUCED, log entry 24). That the row acts by the
receiver's rules in every state, so changes nothing in HUNT and DISABLED, is log entry 11's (DEDUCED). A
closed record whose outcomes are still owed goes on as a closing record; any other joins the frame record
queue of fewer than 16 records, or is dropped with the overflow flag set (R20, R21). -/
def Obligations.LossOfLineOrderEntersHunt : Prop :=
  (∀ x : LinkState, x.closeRecord =
    match x.current with
    | none => x
    | some r =>
      if r.owed ≠ 0 then { x with current := none, closing := x.closing ++ [r] }
      else if x.queue.length < 16 then { x with current := none, queue := x.queue ++ [r.record] }
      else { x with current := none, overflow := true }) ∧
  (∀ (l : Link) (cause : LossCause) (s : State), s.inReset = false →
    exec (.sensorLossOfLineOrder l cause) s = .next (State.settle
      (if (s.link l).receiver = .sync ∨ (s.link l).receiver = .receiving then
        State.raise
          (s.updLink l fun x =>
            let lost := x.receiver == .receiving && x.storing.isSome
            LinkState.closeRecord { x with
              receiver := .hunt
              storing := none
              buffer0 := if lost = true ∧ x.storing = some .zero then ⟨.free, []⟩ else x.buffer0
              buffer1 := if lost = true ∧ x.storing = some .one then ⟨.free, []⟩ else x.buffer1
              counts := { x.counts with
                syncLosses := x.counts.syncLosses + 1
                aborts := if cause = .abort then x.counts.aborts + 1 else x.counts.aborts }
              current := x.current.map fun r => ⟨{ r.record with
                syncLost := true, aborted := r.record.aborted || (lost && cause == .abort) }, r.owed⟩ })
          (.linkState l (some cause))
      else s)))

/-- At CLOSE a stored packet is checked in the order of R15; the first check that fails decides which one
count rises; a packet that passes all is DELIVERED behind any older one and counted in the current record of
its frame, a record of another frame being closed first as R20 lays down (R15, R16, R17, R19, R20). That
SENSOR_STRAY_CODE of a CLOSE in RECEIVING is this CLOSE is read from the rows' rules (DEDUCED, log entry
11). -/
def Obligations.SensorCloseChecksInOrder : Prop :=
  ∀ (l : Link) (k : PacketSlot) (s : State), s.inReset = false → (s.link l).receiver = .receiving →
    (s.link l).storing = some k →
    let x := s.link l
    let ws := (x.packet k).words
    let refused (c : LinkCounts) : LinkState :=
      { x.setPacket k ⟨.free, []⟩ with receiver := .sync, storing := none, counts := c }
    let delivered : LinkState :=
      { x.setPacket k ⟨.delivered, ws⟩ with
        receiver := .sync
        storing := none
        order := x.order ++ [k]
        counts := { x.counts with
          good := x.counts.good + 1
          markers := x.counts.markers + BitVec.ofNat 32 ((packetPayload ws).count 0x8000) } }
    let first : OwedRecord :=
      ⟨⟨packetFrame ws, 1, 0, 0, false, false, false, false, false, false, false⟩, 1⟩
    let z : LinkState :=
      if x.line.count < 5 then refused { x.counts with framing := x.counts.framing + 1 }
      else if x.line.prior ≠ x.line.latest then
        { refused { x.counts with crc := x.counts.crc + 1 } with
          current := x.current.map fun r =>
            { r with record := { r.record with crcErrors := satSucc r.record.crcErrors } } }
      else if 261 < x.line.count ∨ x.line.count ≠ packetSlopes ws + 5 then
        refused { x.counts with framing := x.counts.framing + 1 }
      else if packetSensor ws ≠ l.val then refused { x.counts with misrouted := x.counts.misrouted + 1 }
      else if x.entry.blocks ≤ packetBlock ws then
        refused { x.counts with outOfWindow := x.counts.outOfWindow + 1 }
      else if packetSlopes ws ≠
          (if packetBlock ws + 1 < x.entry.blocks then 256 else x.entry.slopes - 256 * (x.entry.blocks - 1)) then
        refused { x.counts with lengthErrors := x.counts.lengthErrors + 1 }
      else
        match x.current with
        | none => { delivered with current := some first }
        | some r =>
          if r.record.frame = packetFrame ws then
            { delivered with current := some ⟨{ r.record with good := satSucc r.record.good }, r.owed + 1⟩ }
          else { delivered.closeRecord with current := some first }
    exec (.sensorClose l) s = .next (s.updLink l fun _ => z).settle ∧
      exec (.sensorStrayCode l .closeSym) s = .next (s.updLink l fun _ => z).settle

/-- The expected slope count of a block (R16): 256 for every block but the sensor's last, for the last what
is left of the sensor's slope count, between 1 and 256; over all blocks it adds up to the sensor's slope
count. A packet that passes the checks before it with another count fails with a length error, and the
slots of a block beyond its packet's slopes hold 0. -/
def Obligations.ExpectedSlopeCountOfABlock : Prop :=
  (∀ e : MapEntry, 1 ≤ e.blocks → 256 * (e.blocks - 1) < e.slopes → e.slopes ≤ 256 * e.blocks →
    (∀ b, b < e.blocks →
      e.expected b = (if b + 1 < e.blocks then 256 else e.slopes - 256 * (e.blocks - 1)) ∧
        1 ≤ e.expected b ∧ e.expected b ≤ 256) ∧
    ((List.range e.blocks).map e.expected).sum = e.slopes) ∧
  (∀ (l : Nat) (e : MapEntry) (line : LineCheck) (ws : List Word), 5 ≤ line.count → line.count ≤ 261 →
    line.crcPasses = true → line.count = packetSlopes ws + 5 → packetSensor ws = l →
    packetBlock ws < e.blocks → packetSlopes ws ≠ e.expected (packetBlock ws) →
    packetFault l e line ws = some .lengthError) ∧
  (∀ payload : List Word, payload.length ≤ 256 →
    (blockSlopes payload).length = 256 ∧
      ∀ j, j < 256 → (blockSlopes payload)[j]? = some ((payload[j]?).getD 0))

/-- The CRC of R3. The register starts at FFFFh and takes each word most significant bit first: it shifts
left, and is combined with 1021h where the bit and the old most significant bit differ. A packet passes
exactly when that CRC of all its words but the last equals the last, whether or not the words fitted in
a packet buffer. -/
def Obligations.CrcIsOfAllWordsButTheLast : Prop :=
  (∀ (r : Word) (b : Bool), crcBit r b = if b = r.msb then r <<< 1 else (r <<< 1) ^^^ 0x1021) ∧
  (∀ (r w : Word), crcWord r w =
    ((List.range 16).map fun i => w.getMsbD i).foldl crcBit r) ∧
  (∀ ws : List Word, crcOf ws = ws.foldl crcWord 0xFFFF) ∧
  (∀ (ws : List Word) (w : Word),
    ((ws ++ [w]).foldl LineCheck.take .start).count = ws.length + 1 ∧
      (((ws ++ [w]).foldl LineCheck.take .start).crcPasses = true ↔ crcOf ws = w))

/-- Every step keeps every sensor link consistent: 16 records at most, the delivery order naming exactly the
DELIVERED buffers, one buffer at most FILLING, DISABLED exactly while not enabled. -/
def Obligations.SensorLinksStayConsistent : Prop :=
  ∀ s t : State, s.LinksConsistent → step s = .next t → t.LinksConsistent

/-! ### Slope assembly and timing -/

/-- The copy arbiter serves the first presenting link after the rotation point, counting upward and wrapping
(R30), and that link becomes the rotation point. While the loop is STOPPED, or where the sensor map does not
cover the packet, it is refused NOT_STORED (R33). With a buffer OPEN (R34, R35, R36): a packet of its frame
is stored, its copy beginning, or is a DUPLICATE, which with END sets END seen and has finishing evaluated;
one of a later frame overtakes: the buffer closes OVERTAKEN and the packet is matched again with none OPEN;
one of an older frame is STALE. With none OPEN a packet not after the last-closed tag is STALE, one that
finds no FREE buffer NO_BUFFER, and any other opens a buffer and its copy begins (R36, R37). Which buffer an
overtaking packet opens where the overtaken one is itself FREE again is the model's choice (DESIGN CHOICE,
log entry 35). That COPY_GRANT with a copy in progress or nothing presented has no effect of its own is the
model's choice (DESIGN CHOICE, log entry 10). -/
def Obligations.CopyGrantServesLinksInTurn : Prop :=
  ∀ s : State, s.inReset = false →
    (s.sau.copy ≠ none ∨ (∀ l, (s.link l).presented = none) → exec .copyGrant s = .next s.settle) ∧
    (∀ (l : Link) (ws : List Word), s.sau.copy = none → (s.link l).presented = some ws →
      (∀ k, (s.link k).presented ≠ none →
        (l.val + 7 - s.sau.rotation.val) % 8 ≤ (k.val + 7 - s.sau.rotation.val) % 8) →
      let u : State := { s with sau := { s.sau with rotation := l } }
      let e := (s.link l).entry
      let covered := e.enabled = true ∧ packetBlock ws < e.blocks ∧ packetSlopes ws = e.expected (packetBlock ws)
      let refused (t : State) (o : PacketOutcome) : Host.Outcome State Fault Refusal :=
        .next (t.updLink l fun x => x.returnOutcome o).settle
      let copied (t : State) (x : BufferId) : Host.Outcome State Fault Refusal :=
        .next (State.settle { t with sau := { t.sau with copy := some ⟨l, x, e.base + packetBlock ws⟩ } })
      let fresh (t : State) : Host.Outcome State Fault Refusal :=
        if (t.sau.lastClosed.any fun tag => !frameAfter (packetFrame ws) tag) = true then refused t .stale
        else
          match t.freeBuffer with
          | some x => copied (t.openWith x (packetFrame ws)) x
          | none => refused t .noBuffer
      (s.running = false ∨ ¬covered → exec .copyGrant s = refused u .notStored) ∧
      (s.running = true → covered →
        (s.openBuffer = none → exec .copyGrant s = fresh u) ∧
        (∀ x, s.openBuffer = some x →
          let accepted := ((s.desc x).sensors[l]).accepted.getLsbD (packetBlock ws)
          (packetFrame ws = (s.desc x).tag → accepted = false → exec .copyGrant s = copied u x) ∧
          (packetFrame ws = (s.desc x).tag → accepted = true → packetEnd ws = false →
            exec .copyGrant s = refused u .duplicate) ∧
          (packetFrame ws = (s.desc x).tag → accepted = true → packetEnd ws = true →
            exec .copyGrant s = .next (State.settle (State.evaluateFinishing
              ((u.updLink l fun y => y.returnOutcome .duplicate).updDesc x fun d =>
                { d with sensors := d.sensors.set l.val { d.sensors[l] with endSeen := true } l.isLt }) x))) ∧
          (frameAfter (packetFrame ws) (s.desc x).tag = true →
            exec .copyGrant s = fresh (u.closeBuffer x .overtaken)) ∧
          (frameBefore (packetFrame ws) (s.desc x).tag = true → exec .copyGrant s = refused u .stale))))

/-- A granted packet of a new frame opens the FREE buffer, of two the one not opened last, with the
descriptor of R38, starts the deadline timer, raises the opened count, and its copy begins; in STREAM order
an IDLE engine attaches to it at that moment and is WAITING (R29, R37, R38, R53, R86). Which buffer is OPEN,
and which opens next, in every state (R27, R29). -/
def Obligations.CopyGrantOpensABuffer : Prop :=
  (∀ (s : State) (l : Link) (ws : List Word) (x : BufferId), s.Assembling →
    (s.link l).presented = some ws →
    (∀ k, (s.link k).presented ≠ none →
      (l.val + 7 - s.sau.rotation.val) % 8 ≤ (k.val + 7 - s.sau.rotation.val) % 8) →
    (s.link l).uncovered ws = false → s.openBuffer = none →
    (∀ tag, s.sau.lastClosed = some tag → frameAfter (packetFrame ws) tag = true) →
    (s.desc x).state = .free → (x = s.sau.lastOpened → (s.desc x.other).state ≠ .free) →
    ∃ t : State, exec .copyGrant s = .next t.settle ∧
      t.buffer x.other = s.buffer x.other ∧
      t.sau.copy = some ⟨l, x, (s.link l).entry.base + packetBlock ws⟩ ∧ t.sau.lastOpened = x ∧
      t.sau.rotation = l ∧
      t.ctu = { s.ctu with deadlineAt := some (s.ctu.timebase + microseconds s.ctu.deadline) } ∧
      t.lsv = { s.lsv with counts := { s.lsv.counts with opened := s.lsv.counts.opened + 1 } } ∧
      t.links = s.links ∧ t.drp = s.drp ∧ t.tmr = s.tmr ∧ t.mmc.dram = s.mmc.dram ∧
      if s.ctu.order = .stream ∧ s.rce.state = .idle then
        t.desc x = { Descriptor.freed (packetFrame ws) s.ctu.timebase 0 with
          state := .opened, relation := .attached } ∧
        t.rce.state = .waiting ∧ t.rce.attached = some x
      else
        t.desc x = { Descriptor.freed (packetFrame ws) s.ctu.timebase 0 with state := .opened } ∧
        t = { s with sau := t.sau, ctu := t.ctu, lsv := t.lsv }) ∧
  (∀ (s : State) (x : BufferId),
    (s.freeBuffer = some x ↔
      (s.desc x).state = .free ∧ (x = s.sau.lastOpened → (s.desc x.other).state ≠ .free)) ∧
    (s.openBuffer = none ↔ ∀ y, (s.desc y).state ≠ .opened) ∧
    (s.openBuffer = some x → (s.desc x).state = .opened) ∧
    ((s.desc x).state = .opened → (s.desc x.other).state ≠ .opened → s.openBuffer = some x))

/-- At the end of a copy the block is stored: its slopes then zeros in its slot, its index at the tail of the
ready queue and in the accepted set, the markers added, END seen and complete set where they are due (R31).
STORED is returned, a WAITING engine attached to the buffer takes the block (R88), then finishing is
evaluated: when every enabled sensor is finished the buffer closes, COMPLETE if every one is complete, else
ENDED (R40); then a deadline expiry held during the copy is taken (R32). That COPY_END with no copy in
progress has no effect of its own is the model's choice (DESIGN CHOICE, log entry 10). -/
def Obligations.CopyEndStoresTheBlock : Prop :=
  (∀ s : State, s.inReset = false → s.sau.copy = none → exec .copyEnd s = .next s.settle) ∧
  (∀ (s : State) (c : Copy), s.inReset = false → s.sau.copy = some c →
    let ws := ((s.link c.link).presented).getD []
    let p := s.storeBlock c ws
    let u := State.updLink { p with sau := { p.sau with copy := none } } c.link fun x => x.returnOutcome .stored
    let v := if u.rce.state = .waiting ∧ u.rce.attached = some c.buffer then u.continueCycle else u
    let w := v.evaluateFinishing c.buffer
    exec .copyEnd s = .next (State.settle
      (if w.sau.heldExpiry = true then State.takeExpiry { w with sau := { w.sau with heldExpiry := false } }
      else w)) ∧
    p = { s with sau := p.sau } ∧ p.buffer c.buffer.other = s.buffer c.buffer.other ∧
    slotSlopes (p.buffer c.buffer).slots c.global = blockSlopes (packetPayload ws) ∧
    (p.desc c.buffer).ready = (s.desc c.buffer).ready ++ [c.global] ∧
    (p.desc c.buffer).markers = (s.desc c.buffer).markers + (packetPayload ws).count 0x8000 ∧
    (∀ b, ((p.desc c.buffer).sensors[c.link]).accepted.getLsbD b =
      (((s.desc c.buffer).sensors[c.link]).accepted.getLsbD b || decide (b = packetBlock ws))) ∧
    ((p.desc c.buffer).sensors[c.link]).endSeen =
      (((s.desc c.buffer).sensors[c.link]).endSeen || packetEnd ws) ∧
    (((p.desc c.buffer).sensors[c.link]).complete = true ↔
      ((s.desc c.buffer).sensors[c.link]).complete = true ∨
        ∀ b, b < (s.link c.link).entry.blocks →
          ((p.desc c.buffer).sensors[c.link]).accepted.getLsbD b = true) ∧
    (∀ j, j ≠ c.link → (p.desc c.buffer).sensors[j] = (s.desc c.buffer).sensors[j])) ∧
  (∀ (s : State) (x : BufferId), s.evaluateFinishing x =
    if (s.desc x).state = .opened ∧ (∀ l : Link, (s.link l).entry.enabled = true →
        ((s.desc x).sensors[l]).complete = true ∨ ((s.desc x).sensors[l]).endSeen = true) then
      s.closeBuffer x
        (if ∀ l : Link, (s.link l).entry.enabled = true → ((s.desc x).sensors[l]).complete = true then .complete
        else .ended)
    else s)

/-- The deadline timer expires when the timebase reaches its expiry point; the expiry is held during a copy
(R32) and otherwise closes the OPEN buffer with cause DEADLINE, its close timestamp that time (R41, R54).
Every closure, whatever its cause (R42): CLOSED with its cause and close timestamp, the last-closed tag and
the order of closure follow, the timer is stopped, the cause's count rises. A cycle that already has its
outcome then retires (R44). If an enabled ESSENTIAL sensor is not complete the cycle is SKIPPED for MISSING
and retires, an engine attached to it abandoning (R43, R97, R126). Else the buffer is handed on: in BATCH
order to an IDLE engine under IMMEDIATE, in STREAM order to the WAITING engine attached to it (R56, R92). A
CLOSED buffer with an outcome is RETIRING, and FREE when the engine is not attached and no record copies
its slopes (R45). That the command brings the timebase to the expiry point, and does nothing where no timer
runs or the other expires before it, is the model's choice (DESIGN CHOICE, log entry 3). -/
def Obligations.DeadlineExpiryClosesTheOpenBuffer : Prop :=
  (∀ s : State, s.inReset = false →
    exec .deadlineExpiry s = .next (State.settle
      (match s.ctu.deadlineAt with
      | none => s
      | some p =>
        if s.ctu.reachable p s.ctu.paceAt = true then
          State.takeExpiry { s with ctu := { s.ctu with timebase := p, deadlineAt := none } }
        else s))) ∧
  (∀ s : State, s.takeExpiry =
    if s.sau.copy ≠ none then { s with sau := { s.sau with heldExpiry := true } }
    else
      match s.openBuffer with
      | some x => s.closeBuffer x .deadline
      | none => s) ∧
  (∀ (s : State) (x : BufferId) (cause : ClosureCause),
    let d := { s.desc x with state := .closed, cause := some cause, closedAt := s.ctu.timebase }
    let u := s.updDesc x fun _ => d
    let n := s.lsv.counts
    let t : State := { u with
      sau := { u.sau with
        lastClosed := some (s.desc x).tag, closeOrder := u.sau.closeOrder.filter (· != x) ++ [x] }
      ctu := { s.ctu with deadlineAt := none }
      lsv := { s.lsv with counts := { n with
        closedComplete := n.closedComplete + (if cause = .complete then 1 else 0)
        closedEnded := n.closedEnded + (if cause = .ended then 1 else 0)
        closedDeadline := n.closedDeadline + (if cause = .deadline then 1 else 0)
        closedOvertaken := n.closedOvertaken + (if cause = .overtaken then 1 else 0) } } }
    s.closeBuffer x cause =
      if (s.desc x).outcome ≠ none then (t.retire x).freeIfReleased x
      else if ∃ l : Link, (s.link l).entry.enabled = true ∧ (s.link l).entry.role = .essential ∧
          ((s.desc x).sensors[l]).complete = false then t.skipMissing x
      else if s.ctu.order = .batch then t.attachOnIdle.offer
      else if s.rce.state = .waiting ∧ s.rce.attached = some x then t.continueCycle.offer
      else t) ∧
  (∀ (s : State) (x : BufferId),
    s.skipMissing x =
      (let t := (s.giveSkip x .missing (s.skipReport x .missing)).retire x
       if (s.desc x).relation = .attached then
         if t.abandon.rce.state = .idle then t.abandon.enterIdle else t.abandon
       else t.freeIfReleased x) ∧
    s.retire x = (if (s.desc x).state = .closed then s.updDesc x fun d => { d with state := .retiring } else s) ∧
    s.freeIfReleased x =
      if (s.desc x).state = .retiring ∧ (s.desc x).relation ≠ .attached ∧
          (s.tmr.writing.any fun w => w.holds && w.buffer == x) = false then
        s.updDesc x fun d => { d with state := .free }
      else s) ∧
  (∀ (s : State) (x : BufferId) (cause : ClosureCause),
    let t := s.closeBuffer x cause
    (t.desc x).state ≠ .opened ∧ (t.desc x).cause = some cause ∧ (t.desc x).closedAt = s.ctu.timebase ∧
      (t.desc x).tag = (s.desc x).tag ∧ t.sau.lastClosed = some (s.desc x).tag ∧
      t.ctu = { s.ctu with deadlineAt := none } ∧ t.links = s.links ∧ t.drp = s.drp ∧
      t.mmc.dram = s.mmc.dram ∧ t.tfu.shadow = s.tfu.shadow)

/-- A tick in BATCH order while the loop is running is late where the engine is not IDLE, is empty where no
buffer awaits computation, and otherwise attaches the oldest waiting buffer; in STREAM order and while
STOPPED it is ignored (R55, R57). A pace expiry reloads the timer and is a tick (R58); an edge is a tick
under the EXTERNAL trigger in the selected direction (R59). That PACE_TICK brings the timebase to the expiry
point, and does nothing where the timer does not run or the other expires before it, is the model's choice
(DESIGN CHOICE, log entry 3). -/
def Obligations.TicksAreLateEmptyOrAttach : Prop :=
  (∀ u : State, u.tick =
    if u.ctu.order = .batch ∧ u.running = true then
      if u.rce.state ≠ .idle then
        { u with lsv := { u.lsv with counts := { u.lsv.counts with lateTicks := u.lsv.counts.lateTicks + 1 } } }
      else match u.sau.closeOrder.find? fun x =>
          (u.desc x).state == .closed && (u.desc x).relation == .none && (u.desc x).outcome == none with
        | some x => (u.attach x).offer
        | none => { u with lsv := { u.lsv with counts := { u.lsv.counts with
            emptyTicks := u.lsv.counts.emptyTicks + 1 } } }
    else u) ∧
  (∀ s : State, s.inReset = false →
    exec .paceTick s = .next (State.settle
      (match s.ctu.paceAt with
      | none => s
      | some p =>
        if s.ctu.reachable p s.ctu.deadlineAt = true then
          State.tick { s with ctu := { s.ctu with
            timebase := p
            paceCurrent := s.ctu.pacePending
            paceAt := some (p + microseconds s.ctu.pacePending) } }
        else s))) ∧
  (∀ (s : State) (e : Edge), s.inReset = false →
    exec (.cycleSyncEdge e) s = .next (State.settle
      (if s.ctu.trigger = .external ∧ s.ctu.edge = e then
        State.tick { s with ctu := { s.ctu with syncLevel := decide (e = .rising) } }
      else { s with ctu := { s.ctu with syncLevel := decide (e = .rising) } }))) ∧
  (∀ (c : Ctu) (p : Time), c.reachable p none = true ∧
    ∀ q, (c.reachable p (some q) = true ↔ (p - c.timebase).toNat ≤ (q - c.timebase).toNat))

/-- Attach (R87). Steps 1 to 6: a pending swap is made first, SWAP_DONE carrying the tag of the buffer (R80);
the cycle bank and shift are those of the active bank; a pending apply is made now, PARAMS_APPLIED carrying
ATTACH and the tag, or is due at the end of a running pass (R104, R106); the attach timestamp is the
timebase, row sums 0 to A − 1 are 0 and the others kept, and the engine relation is ATTACHED. Step 7: the
engine takes blocks from the head of the ready queue; one that is absent in the cycle bank's directory is
counted and finished at once; on a present one it is BUSY and presents its rows in turn, each at the place
of R70; on an empty queue it is WAITING where the buffer is OPEN, else it forms the residuals (R88, R89,
R90, R92). An engine that enters IDLE while the loop runs attaches: in BATCH order under IMMEDIATE the oldest
waiting buffer, in STREAM order an OPEN one not yet taken, else the oldest waiting (R56, R86). -/
def Obligations.AttachFixesBankShiftAndSums : Prop :=
  (∀ (s : State) (x : BufferId),
    let tag := (s.desc x).tag
    let a : State := match s.mmc.swap with
      | some k => State.raise { s with mmc := { s.mmc with active := k, swap := none } } (.swapDone k (some tag))
      | none => s
    let b : State :=
      if s.tfu.applyPending = false then a
      else if s.tfu.pass = none then State.raise { a with tfu := s.tfu.apply } (.paramsApplied (.attach tag))
      else { a with tfu := { s.tfu with applyDue := true, applyTag := tag } }
    let t := s.beginCycle x
    s.attach x = t.continueCycle ∧
    t = { b with sau := t.sau, rce := t.rce } ∧
    t.rce = { s.rce with
      bank := some b.mmc.active, shift := some (s.bank b.mmc.active).shift, attached := some x
      attachedAt := some s.ctu.timebase, block := none, nextRow := 0, residuals := [], sums := t.rce.sums } ∧
    (∀ i p q, s.rce.sums.toList[i]? = some p → t.rce.sums.toList[i]? = some q →
      q = if i < s.drp.settings.actuators then 0 else p) ∧
    t.sau = (s.updDesc x fun d => { d with relation := .attached }).sau) ∧
  (∀ s : State, s.continueCycle = match s.rce.attached with
    | some x => State.takeBlocks x (s.desc x).ready s
    | none => s) ∧
  (∀ (s : State) (x : BufferId), State.takeBlocks x [] s =
    let t := s.updDesc x fun d => { d with ready := [] }
    if (s.desc x).state = .opened then { t with rce := { t.rce with state := .waiting, block := none } }
    else t.formResiduals) ∧
  (∀ (s : State) (x : BufferId) (g : Nat) (rest : List Nat), State.takeBlocks x (g :: rest) s =
    if (s.rce.bank.any fun k => (s.entry k g).present) = true then
      let t := s.updDesc x fun d => { d with ready := rest }
      State.presentRow { t with rce := { t.rce with state := .busy, block := some g, nextRow := 0 } }
    else
      State.takeBlocks x rest { s with lsv := { s.lsv with counts := { s.lsv.counts with
        absentBlocks := s.lsv.counts.absentBlocks + 1 } } }) ∧
  (∀ (s : State) (g : Nat) (k : BankId), s.rce.state = .busy → s.rce.block = some g → s.rce.bank = some k →
    let a := s.rce.nextRow
    let b : Burst := ⟨.engine, 8 * (s.entry k g).base + a, none, k, g, a, false⟩
    s.presentRow =
      if a < s.drp.settings.actuators then
        { s with
          mmc := { s.mmc with engineWaits := some b }
          rce := { s.rce with nextRow := a + 1 } }
      else s) ∧
  (∀ s : State, s.rce.state ≠ .busy ∨ s.rce.block = none ∨ s.rce.bank = none → s.presentRow = s) ∧
  (∀ s : State, s.attachOnIdle =
    if s.rce.state = .idle ∧ s.running = true then
      match s.ctu.order, s.ctu.trigger, [BufferId.a, .b].find? fun x =>
          (s.desc x).state == .opened && (s.desc x).relation == .none && (s.desc x).outcome == none with
      | .batch, .immediate, _ => (s.oldestWaiting.map s.attach).getD s
      | .batch, _, _ => s
      | .stream, _, some x => s.attach x
      | .stream, _, none => (s.oldestWaiting.map s.attach).getD s
    else s) ∧
  (∀ s : State, s.oldestWaiting = s.sau.closeOrder.find? fun x =>
    (s.desc x).state == .closed && (s.desc x).relation == .none && (s.desc x).outcome == none)

/-- Every step keeps at most one slope buffer OPEN, and the deadline timer running only while one is. -/
def Obligations.AtMostOneBufferStaysOpen : Prop :=
  ∀ s t : State, s.OneOpen → step s = .next t → t.OneOpen

/-! ### Matrix memory -/

/-- The free port is granted to the engine's waiting burst, else the recorder's, else the host channel's; a
lower requester's burst goes on waiting, and the granted requester presents its next burst at once (R67):
the engine its next row, the recorder the next burst of its slot, the host channel the next burst of the
request in execution. A busy port grants nothing. That BURST_GRANT with the port busy or nothing waiting has
no effect of its own is the model's choice (DESIGN CHOICE, log entry 10). -/
def Obligations.BurstGrantGoesByPriority : Prop :=
  (∀ s : State, s.inReset = false → exec .burstGrant s = .next s.grantBurst.settle) ∧
  (∀ s : State, s.grantBurst =
    if s.mmc.port ≠ none then s
    else
      match s.mmc.engineWaits, s.mmc.recorderWaits, s.mmc.hostWaits with
      | some b, _, _ => State.presentRow { s with mmc := { s.mmc with port := some b, engineWaits := none } }
      | none, some b, _ =>
        State.presentRecord { s with mmc := { s.mmc with port := some b, recorderWaits := none } }
      | none, none, some b => State.presentHost { s with mmc := { s.mmc with port := some b, hostWaits := none } }
      | none, none, none => s) ∧
  (∀ s : State, s.presentHost =
    match s.clp.inExec with
    | some ⟨r, .transfer (b :: todo) left got kind⟩ =>
      { s with
        mmc := { s.mmc with hostWaits := some b }
        clp := { s.clp with inExec := some ⟨r, .transfer todo left got kind⟩ } }
    | _ => s) ∧
  (∀ s : State,
    s.presentRow = { s with
      mmc := { s.mmc with engineWaits := s.presentRow.mmc.engineWaits }
      rce := { s.rce with nextRow := s.presentRow.rce.nextRow } } ∧
    s.presentRecord = { s with
      mmc := { s.mmc with recorderWaits := s.presentRecord.mmc.recorderWaits }
      tmr := { s.tmr with writing := s.presentRecord.tmr.writing } })

/-- The end of a write burst stores its 256 words, clears the errors its words held, raises neither error
count, frees the port (R65), and is told to its requester unless dropped (R68, R76, R159), after the next
grant where `first`. A byte written to the DRAM is read back, and every other byte reads as before; a burst's
words are read back as they were written. -/
def Obligations.WriteBurstEndStoresItsWords : Prop :=
  (∀ (s : State) (b : Burst) (ws : List Word) (first : Bool) (errors : List BitError), s.inReset = false →
    s.mmc.port = some b → b.write = some ws → b.place < 1048576 →
    let u : State := { s with mmc := { s.mmc with
      dram := Memory.writeBurst s.mmc.dram b.place ws
      weak := s.mmc.weak.filter fun e => decide (e.1 < 64 * b.place ∨ 64 * b.place + 64 ≤ e.1)
      port := none } }
    let v := if first = true then u.grantBurst else u
    exec (.burstEnd first errors) s = .next (State.settle
      (if b.dropped = true then v
      else
        match b.who with
        | .telemetry => v.recordBurstEnded b.row
        | .hostMatrix | .hostTelemetry => v.hostBurstEnded []
        | .engine => v))) ∧
  (∀ (m : List Host.Cell) (base : Nat) (bs : List Byte) (a : Nat), Memory.wf m →
    Memory.byteAt (Memory.writeBytes m base bs) a =
      if base ≤ a ∧ a < base + bs.length then bs[a - base]? else Memory.byteAt m a) ∧
  (∀ (m : List Host.Cell) (place n j : Nat) (ws : List Word), Memory.wf m → ws.length = 256 → j < 256 →
    (readWords (Memory.writeBurst m place ws) place n)[j]? = ws[j]?)

/-- The end of a read burst changes no byte of the DRAM and frees the port; the corrected count rises by one
for each of its 64 words found corrected, the uncorrectable count by one for a burst with an uncorrectable
word, and that burst raises MEMORY_ERROR (R64, R66); then its requester acts on it, unless dropped. An
unwritten word's result is a free value (R63, log entry 6). The errors that have come about in the stored
words are an operand of the row and persist until the word is written (DESIGN CHOICE, log entry 5); a burst
outside the DRAM stops the model (log entry 33); BURST_END with no burst on the port has no effect of its
own (DESIGN CHOICE, log entry 10). MEMORY_ERROR is raised before the requester acts (log entry 23). -/
def Obligations.ReadBurstEndCountsItsErrors : Prop :=
  (∀ (s : State) (b : Burst) (first : Bool) (errors : List BitError), s.inReset = false →
    s.mmc.port = some b → 1048576 ≤ b.place → exec (.burstEnd first errors) s = .fault .noSuchBurst) ∧
  (∀ (s : State) (first : Bool) (errors : List BitError), s.inReset = false → s.mmc.port = none →
    exec (.burstEnd first errors) s = .next s.settle) ∧
  (∀ (s : State) (b : Burst) (first : Bool) (errors : List BitError), s.inReset = false →
    s.mmc.port = some b → b.write = none → b.place < 1048576 →
    let weak := addErrors s.mmc.dram b.place s.mmc.weak errors
    let results := (List.range 64).map fun i =>
      if Memory.eccWritten s.mmc.dram b.place i then (weak.lookup (64 * b.place + i)).getD .passed
      else Config.unwrittenEcc s.drawn i
    let words := (List.range 256).map fun j =>
      (Memory.wordAt s.mmc.dram b.place j).getD (Config.unwrittenWord s.drawn j)
    let bad := results.contains .uncorrectable
    let t : State := { s with
      drawn := s.drawn + 1
      mmc := { s.mmc with
        port := none
        weak := weak
        corrected := s.mmc.corrected + BitVec.ofNat 32 (results.count .corrected)
        uncorrectable := s.mmc.uncorrectable + (if bad = true then 1 else 0) } }
    let u := if bad = true then t.raise (.memoryError b.who b.place b.bank b.block b.row) else t
    let v := if first = true then u.grantBurst else u
    exec (.burstEnd first errors) s = .next (State.settle
      (match b.who with
      | .engine => v.engineBurstEnded b bad words
      | .hostMatrix | .hostTelemetry =>
        if b.dropped = true then v else if bad = true then v.hostReadFails b else v.hostBurstEnded words
      | .telemetry => v)))

/-- A good row of the engine's current block: its row sum gains the sum over the 256 slots of slope times
coefficient, the invalid-slope marker counting as 0, and no other sum changes (R90). After the block's last
row the engine goes on with the ready queue (R92). What adding a row does (`addRow`) is said of every state
and words, so of a row with corrected words, of new errors and where the arbiter grants first, all of which
ReadBurstEndCountsItsErrors brings to `engineBurstEnded` (R64). On entering DELIVERING it forms the residuals:
each row sum over 2^k, rounded and saturated to 32 bits, the saturated ones counted (R93). The TFU takes the
offer when no pass runs: a pass starts with the residuals, tag, cycle bank, attach timestamp and loop state of
that moment, the buffer's engine relation is DONE, the engine is IDLE and may attach again (R94, R109), the
row sums standing until it does (DESIGN CHOICE, log entry 28). A DRAINING engine whose last burst has ended is
IDLE (R95, R96). -/
def Obligations.EngineRowAddsItsDotProduct : Prop :=
  (∀ (s : State) (b : Burst) (x : BufferId) (g : Nat), s.inReset = false → s.mmc.port = some b →
    b.who = .engine → b.write = none → b.dropped = false → b.place < 1048576 →
    s.rce.state = .busy → s.rce.attached = some x → s.rce.block = some g →
    (∀ i, i < 64 → Memory.eccWritten s.mmc.dram b.place i = true ∧
      s.mmc.weak.lookup (64 * b.place + i) = none) →
    let product := (List.zipWith
      (fun (p m : Word) => (if p = 0x8000 then 0 else p.toInt) * m.toInt)
      (slotSlopes (s.buffer x).slots g) (readWords s.mmc.dram b.place s.drawn)).sum
    ∃ t : State,
      exec (.burstEnd false []) s = .next (State.settle
        (if b.row + 1 = s.actuators then
          (State.continueCycle { t with rce := { t.rce with block := none } }).offer
        else t)) ∧
      (∀ i p q, s.rce.sums.toList[i]? = some p → t.rce.sums.toList[i]? = some q →
        q = if i = b.row then p + product else p) ∧
      t = { s with
        rce := { s.rce with sums := t.rce.sums }, mmc := { s.mmc with port := none }, drawn := s.drawn + 1 }) ∧
  (∀ (s : State) (x : BufferId) (g row : Nat) (ws : List Word),
    let product := (List.zipWith
      (fun (p m : Word) => (if p = 0x8000 then 0 else p.toInt) * m.toInt)
      (slotSlopes (s.buffer x).slots g) ws).sum
    let t : State := { s with rce := { s.rce with
      sums := s.rce.sums.mapIdx fun i p => if i = row then p + product else p } }
    s.addRow x g row ws =
      if row + 1 = s.actuators then (State.continueCycle { t with rce := { t.rce with block := none } }).offer
      else t) ∧
  (∀ (s : State) (b : Burst) (bad : Bool) (ws : List Word), s.engineBurstEnded b bad ws =
    match s.rce.state, s.rce.attached, s.rce.block with
    | .draining, _, _ => if s.enginePort = true then s else s.engineLetsGo.enterIdle
    | .busy, some x, some g =>
      if b.dropped = true then s else if bad = true then s.memorySkip x else s.addRow x g b.row ws
    | _, _, _ => s) ∧
  (∀ s : State,
    let sums := s.rce.sums.toList.take s.drp.settings.actuators
    let q (p : Int) := roundDiv p (2 ^ s.rce.shift.getD 0)
    s.formResiduals = { s with
      rce := { s.rce with
        state := .delivering, block := none
        residuals := sums.map fun p => max (-2147483648) (min 2147483647 (q p)) }
      lsv := { s.lsv with counts := { s.lsv.counts with
        residualSaturations := s.lsv.counts.residualSaturations + BitVec.ofNat 32
          (sums.countP fun p => decide (q p < -2147483648 ∨ 2147483647 < q p)) } } }) ∧
  (∀ (s : State) (x : BufferId) (k : BankId) (p : Time), s.rce.attached = some x → s.rce.bank = some k →
    s.rce.attachedAt = some p →
    let values := (s.tfu.active.toList.take s.drp.settings.actuators).map (·.acc)
    let pass : FilterPass := ⟨x, (s.desc x).tag, k, p, s.lsv.loop, s.rce.residuals, values⟩
    let t : State := { s with tfu := { s.tfu with pass := some pass } }
    s.offer = if s.rce.state = .delivering ∧ s.tfu.pass = none then t.engineLetsGo.attachOnIdle else s) ∧
  (∀ s : State, s.rce.state ≠ .delivering ∨ s.rce.attached = none ∨ s.tfu.pass ≠ none → s.offer = s) ∧
  (∀ s : State,
    let t : State := { s with rce := ⟨.idle, none, none, none, s.rce.sums, none, none, 0, []⟩ }
    s.engineLetsGo = match s.rce.attached with
      | none => t
      | some x =>
        if (s.desc x).relation = .attached then
          (t.updDesc x fun d => { d with relation := .done }).freeIfReleased x
        else t)

/-- An uncorrectable row of the engine's current block ends the cycle: outcome SKIPPED with cause MEMORY,
counted, the consecutive skip count up by one, the rest of the ready queue discarded (R95, R126). The engine
stops: its waiting burst is withdrawn, and while a granted one still transfers, its data no longer heeded,
it is DRAINING, else it lets go of the buffer and is IDLE (R68, R95). What stopping, abandoning (R96) and the
entry to IDLE (R94, R98) do in every state; the row sums that R95 and R96 discard stand until the next attach
(DESIGN CHOICE, log entry 28). -/
def Obligations.UncorrectableRowSkipsTheCycle : Prop :=
  (∀ (s : State) (b : Burst) (x : BufferId) (g i : Nat), s.inReset = false → s.mmc.port = some b →
    b.who = .engine → b.write = none → b.dropped = false → b.place < 1048576 →
    s.rce.state = .busy → s.rce.attached = some x → s.rce.block = some g →
    i < 64 → Memory.eccWritten s.mmc.dram b.place i = true →
    s.mmc.weak.lookup (64 * b.place + i) = some .uncorrectable →
    ∃ t : State, exec (.burstEnd false []) s = .next t.settle ∧
      (t.desc x).outcome = some .skipped ∧ (t.desc x).skip = some .memory ∧ (t.desc x).ready = [] ∧
      t.lsv.skips = satSucc s.lsv.skips ∧
      t.lsv.counts.skippedMemory = s.lsv.counts.skippedMemory + 1 ∧
      (s.ctu.order = .batch → s.ctu.trigger ≠ .immediate → t.rce.state = .idle ∧ t.rce.attached = none) ∧
      (s.tfu.applyPending = false → t.tfu.active = s.tfu.active) ∧
      t.links = s.links ∧ t.drp = s.drp ∧ t.mmc.dram = s.mmc.dram) ∧
  (∀ (s : State) (x : BufferId), s.memorySkip x =
    let t := ((s.giveSkip x .memory (s.skipReport x .memory)).updDesc x fun d => { d with ready := [] }).retire x
    if t.engineStops.rce.state = .idle then t.engineStops.enterIdle else t.engineStops) ∧
  (∀ s : State,
    let t : State := { s with mmc := { s.mmc with
      engineWaits := none
      port := s.mmc.port.map fun p => if p.who = .engine then { p with dropped := true } else p } }
    s.engineStops =
      (if (s.mmc.port.any fun p => p.who == .engine) = true then
        { t with rce := { t.rce with state := .draining } }
      else t.engineLetsGo) ∧
    s.abandon =
      (match s.rce.state with
      | .idle | .draining => s
      | .waiting | .delivering => s.engineLetsGo
      | .busy => s.engineStops) ∧
    s.enterIdle = s.reportIdle.attachOnIdle.offer)

/-- Every step keeps the DRAM's canonical form: written bytes by strictly rising address. That the DRAM is kept
so is the model's own form (DESIGN CHOICE, log entry 6). -/
def Obligations.DramStaysCanonical : Prop :=
  ∀ s t : State, Memory.wf s.mmc.dram → step s = .next t → Memory.wf t.mmc.dram

/-- Every step keeps the page ranges of all present column blocks inside the DRAM and apart from one another
and from the telemetry region. -/
def Obligations.PageRangesStayDisjoint : Prop :=
  ∀ s t : State, s.PagesDisjoint → step s = .next t → t.PagesDisjoint

/-- WRITE_DIRECTORY: INVALID for a bank, block or present field out of range; WRITE_PROTECTED for the active
bank; PENDING for the target of a pending swap; for a present entry LENGTH, then OVERLAP with a range in
use, of another present entry of either bank or the telemetry region; else the entry alone is replaced (R71,
R72, R73). SET_BANK_SHIFT: the same checks on the bank, then a
shift outside 8 to 24 is INVALID; else the bank's shift alone is replaced (R74). SWAP_BANK: INVALID for a
target out of range or active, PENDING while a swap is pending, LENGTH with the lowest block that is too short
for A; in STOPPED the target becomes active at once, in a running state the swap is pending and ACCEPTED (R78,
R79). CANCEL_SWAP clears a pending swap, or is refused WRONG_STATE (R82). -/
def Obligations.BankRequestsAreChecked : Prop :=
  (∀ (s : State) (tag bank block present b1 b0 l1 l0 : Word),
    s.Ready [bank, block, present, b1, b0, l1, l0] →
    let base := 65536 * b1.toNat + b0.toNat
    let len := 65536 * l1.toNat + l0.toNat
    let k : BankId := if bank = 0 then .zero else .one
    let entry : DirEntry := if present = 1 then ⟨true, base, len⟩ else ⟨false, 0, 0⟩
    let refuse (r : Result) := (s.answered 13 tag r []).transmit
    exec (.writeDirectory tag [bank, block, present, b1, b0, l1, l0]) s = .next
      (if 1 < bank.toNat ∨ 63 < block.toNat ∨ 1 < present.toNat then refuse .invalid
      else if k = s.mmc.active then refuse .writeProtected
      else if s.mmc.swap = some k then refuse .pending
      else if present = 1 ∧ (len = 0 ∨ 131072 < base + len) then refuse .length
      else if present = 1 ∧ s.rangeInUse k block.toNat base len = true then refuse .overlap
      else State.transmit ((s.updBank k fun x =>
        { x with directory := writeFrom x.directory block.toNat [entry] }).answered 13 tag .ok []))) ∧
  (∀ (s : State) (tag bank shift : Word), s.Ready [bank, shift] →
    let k : BankId := if bank = 0 then .zero else .one
    let refuse (r : Result) := (s.answered 14 tag r []).transmit
    exec (.setBankShift tag [bank, shift]) s = .next
      (if 1 < bank.toNat then refuse .invalid
      else if k = s.mmc.active then refuse .writeProtected
      else if s.mmc.swap = some k then refuse .pending
      else if shift.toNat < 8 ∨ 24 < shift.toNat then refuse .invalid
      else State.transmit ((s.updBank k fun x => { x with shift := shift.toNat }).answered 14 tag .ok []))) ∧
  (∀ (s : State) (tag target : Word), s.Ready [target] →
    let k : BankId := if target = 0 then .zero else .one
    let short := (List.range 64).find? fun g =>
      (s.entry k g).present && decide ((s.entry k g).pages < (s.drp.settings.actuators + 7) / 8)
    exec (.swapBank tag [target]) s = .next (State.transmit
      (if 1 < target.toNat ∨ k = s.mmc.active then s.answered 17 tag .invalid []
      else if s.mmc.swap ≠ none then s.answered 17 tag .pending []
      else match short with
        | some g => s.answered 17 tag .length [BitVec.ofNat 16 g]
        | none =>
          if s.lsv.loop = .stopped then
            State.answered { s with mmc := { s.mmc with active := k } } 17 tag .ok []
          else State.answered { s with mmc := { s.mmc with swap := some k } } 17 tag .accepted []))) ∧
  (∀ (s : State) (tag : Word), s.Ready [] →
    exec (.cancelSwap tag []) s = .next (State.transmit
      (if s.mmc.swap = none then s.answered 18 tag .wrongState []
      else State.answered { s with mmc := { s.mmc with swap := none } } 18 tag .ok []))) ∧
  (∀ (s : State) (k : BankId) (g base len : Nat), s.rangeInUse k g base len = true ↔
    (∃ j h, h < 64 ∧ (j ≠ k ∨ h ≠ g) ∧ (s.entry j h).present = true ∧ (s.entry j h).base < base + len ∧
      base < (s.entry j h).base + (s.entry j h).pages) ∨
    (∃ c, s.tmr.config = some c ∧ c.base < base + len ∧ base < c.base + c.pages))

/-- WRITE_MATRIX and READ_MATRIX: their checks in order, and where all pass the request stays in execution
with one burst for each row, in ascending row order, at the places of R70, the first waiting at the arbiter
(R70, R75, R76, R77). At the end of its last burst the request is complete: WRITE_MATRIX OK, READ_MATRIX OK
with the words of its rows in order, READ_TELEMETRY OK with the words asked for (R76, R77, R163). An
uncorrectable burst ends a read with MEMORY_ERROR, its waiting burst withdrawn and a granted one dropped, a
READ_MATRIX giving the row (R77, R163). That a record is no longer under read when its reply is filled, where
R163 says when it is sent, and that a failed read is answered at the end of the failing burst, is the model's
choice (DESIGN CHOICE, log entry 26). -/
def Obligations.MatrixRequestsPresentOneBurstPerRow : Prop :=
  (∀ (s : State) (tag bank block first count : Word) (coefficients : List Word),
    s.Ready (bank :: block :: first :: count :: coefficients) → coefficients.length ≤ 1024 →
    let k : BankId := if bank = 0 then .zero else .one
    let e := s.entry k block.toNat
    let refuse (r : Result) := (s.answered 15 tag r []).transmit
    let rows := (List.range count.toNat).map fun i =>
      rowBurst e k block.toNat (first.toNat + i) (some ((coefficients.drop (256 * i)).take 256))
    exec (.writeMatrix tag (bank :: block :: first :: count :: coefficients)) s = .next
      (if 1 < bank.toNat ∨ 63 < block.toNat ∨ 1023 < first.toNat ∨ count.toNat < 1 ∨ 4 < count.toNat then
        refuse .invalid
      else if k = s.mmc.active then refuse .writeProtected
      else if s.mmc.swap = some k then refuse .pending
      else if e.present = false then refuse .notPresent
      else if e.pages * 4096 < (first.toNat + count.toNat) * 512 then refuse .length
      else if coefficients.length ≠ 256 * count.toNat then refuse .badRequest
      else State.transmit { s.started 15 tag (bank :: block :: first :: count :: coefficients)
          (.transfer rows.tail count.toNat [] .writeMatrix) with
        mmc := { s.mmc with hostWaits := rows.head? } })) ∧
  (∀ (s : State) (tag bank block first count : Word), s.Ready [bank, block, first, count] →
    let k : BankId := if bank = 0 then .zero else .one
    let e := s.entry k block.toNat
    let refuse (r : Result) := (s.answered 16 tag r []).transmit
    let rows := (List.range count.toNat).map fun i =>
      rowBurst e k block.toNat (first.toNat + i) none
    exec (.readMatrix tag [bank, block, first, count]) s = .next
      (if 1 < bank.toNat ∨ 63 < block.toNat ∨ 1023 < first.toNat ∨ count.toNat < 1 ∨ 4 < count.toNat then
        refuse .invalid
      else if e.present = false then refuse .notPresent
      else if e.pages * 4096 < (first.toNat + count.toNat) * 512 then refuse .length
      else State.transmit { s.started 16 tag [bank, block, first, count]
          (.transfer rows.tail count.toNat [] .readMatrix) with
        mmc := { s.mmc with hostWaits := rows.head? } })) ∧
  (∀ (s : State) (r : Request) (todo : List Burst) (left : Nat) (got ws : List Word) (kind : TransferKind),
    s.clp.inExec = some ⟨r, .transfer todo left got kind⟩ →
    s.hostBurstEnded ws =
      if 1 < left then
        { s with clp := { s.clp with inExec := some ⟨r, .transfer todo (left - 1) (got ++ ws) kind⟩ } }
      else
        match kind with
        | .writeMatrix => s.complete .ok []
        | .readMatrix => s.complete .ok (got ++ ws)
        | .readTelemetry skip count =>
          State.complete { s with tmr := { s.tmr with underRead := none } } .ok
            (((got ++ ws).drop skip).take count)) ∧
  (∀ (s : State) (b : Burst), s.hostReadFails b =
    State.complete { s with
      mmc := { s.mmc with
        hostWaits := none
        port := s.mmc.port.map fun p =>
          if p.who = .hostMatrix ∨ p.who = .hostTelemetry then { p with dropped := true } else p }
      tmr := { s.tmr with underRead := none } }
      .memoryError (if b.who = .hostMatrix then [BitVec.ofNat 16 b.row] else []))
/-! ### The filter -/

/-- A rounded quotient is a nearest integer, and of two equally near the one away from zero (00_scope,
Numbers and rounding); so a residual is within half a unit of its row sum over 2^k unless saturated
(R93), and a command word lies within its actuator's limits (R115). -/
def Obligations.RoundedQuotientsAreNearest : Prop :=
  (∀ (n : Int) (d : Nat), 0 < d →
    2 * (n - roundDiv n d * d).natAbs ≤ d ∧
      (2 * (n - roundDiv n d * d).natAbs = d → n.natAbs < (roundDiv n d * d).natAbs)) ∧
  (∀ (k : Nat) (p : Int),
    residualOf k p = max (-2147483648) (min 2147483647 (roundDiv p (2 ^ k))) ∧
      (residualSaturates k p = true ↔
        roundDiv p (2 ^ k) < -2147483648 ∨ 2147483647 < roundDiv p (2 ^ k))) ∧
  (∀ (p : ActuatorParams) (x : Int), p.Within x →
    p.lo.toInt ≤ (commandWord x).toInt ∧ (commandWord x).toInt ≤ p.hi.toInt ∧
      (commandWord x).toInt = roundDiv x 256)

/-- The update of a CLOSED pass (R110): an enabled actuator takes L + G clamped to its limits and is saturated
where the clamp changed it; the leak term is no larger than the value it decays; a disabled actuator keeps
its value. The re-clamp after the pair pass acts likewise (R112). A pair whose values differ by more than D′
(R111): two enabled members move by half the excess each, the odd fine unit going to the lower, and then
differ by D′; one enabled member moves alone to D′; a pair within D′, or with neither enabled, does not
move. -/
def Obligations.PassValuesAreClampedToTheLimits : Prop :=
  (∀ (l : PassLine) (r : Int), l.params.low ≤ l.params.high → l.params.leak ≤ 65536 →
    let u := roundDiv (l.params.leak * l.value) 65536 + roundDiv (l.params.gain.toInt * r) 4096
    (roundDiv (l.params.leak * l.value) 65536).natAbs ≤ l.value.natAbs ∧
    (l.params.enabled = true →
      l.params.Within (l.update r).value ∧
      (l.params.Within u → (l.update r).value = u ∧ (l.update r).saturated = l.saturated) ∧
      (u < l.params.low → (l.update r).value = l.params.low ∧ (l.update r).saturated = true) ∧
      (l.params.high < u → (l.update r).value = l.params.high ∧ (l.update r).saturated = true) ∧
      l.params.Within l.reclamp.value ∧
      (l.params.Within l.value → l.reclamp = l) ∧
      (¬ l.params.Within l.value → l.reclamp.saturated = true)) ∧
    (l.params.enabled = false → l.update r = l ∧ l.reclamp = l)) ∧
  (∀ (h l d : Int), 0 ≤ d → l ≤ h →
    (h - l ≤ d → ∀ e f, pairMove e f h l d = (h, l)) ∧
    (d < h - l →
      (let m := pairMove true true h l d
       m.1 - m.2 = d ∧ m.1 ≤ h ∧ l ≤ m.2 ∧ 0 ≤ (h + l) - (m.1 + m.2) ∧ (h + l) - (m.1 + m.2) ≤ 1) ∧
      pairMove true false h l d = (l + d, l) ∧ pairMove false true h l d = (h, h - d) ∧
      pairMove false false h l d = (h, l)))

/-- Every step keeps every accumulator within 256 × lo to 256 × hi of its active record (R100). -/
def Obligations.AccumulatorsStayWithinLimits : Prop :=
  ∀ s t : State, s.WithinLimits → step s = .next t → t.WithinLimits

/-- The end of a filter pass (R113). Its results are written: in a CLOSED pass every actuator's update, then the
pairs of the active list in slot order, a pair with a member at or beyond A skipped, then the re-clamp (R110
to R112), the saturated actuators' saturation counts up by one; a HELD or OPEN pass writes its accumulators
back (R109). A CLOSED or HELD pass joins a slice of the command words as written to the outbound queue, which
discards queued slices not before it and then the oldest of three (R115, R116, R147). The supervisor takes
COMPLETED with the two counts (R125), the recorder the outcome, the buffer retires, a trip freezes the
recorder (R128, R162). Then an apply that is due is made (R104, R106), a preset that waits is made (R117), and
an engine that offers its residuals has them taken (R94, R109). That FILTER_PASS_END with no pass running has
no effect of its own is the model's choice (DESIGN CHOICE, log entry 10). -/
def Obligations.FilterPassEndCompletesTheCycle : Prop :=
  (∀ s : State, s.inReset = false → s.tfu.pass = none → exec .filterPassEnd s = .next s.settle) ∧
  (∀ (s : State) (p : FilterPass), s.inReset = false → s.tfu.pass = some p →
    let w := s.completePass p
    let a := if w.tfu.applyDue = true then
        State.raise { w with tfu := w.tfu.apply } (.paramsApplied (.passEnd w.tfu.applyTag))
      else w
    let b := match a.clp.inExec with
      | some ⟨_, .pass first values⟩ => a.makePreset first values
      | _ => a
    exec .filterPassEnd s = .next (State.settle (State.offer { b with tfu := { b.tfu with pass := none } }))) ∧
  (∀ (s : State) (p : FilterPass),
    let w := s.completePass p
    let lines := List.zipWith (fun (r : ActiveRecord) (v : Int) => (⟨r.params, v, false⟩ : PassLine))
      s.tfu.active.toList p.values
    let paired := (s.tfu.activePairs.slots.toList.take s.tfu.activePairs.count).foldl takePair
      (List.zipWith PassLine.update lines p.residuals, 0)
    let final := if p.loop = .closed then (paired.1.map PassLine.reclamp, paired.2) else (lines, 0)
    let saturated := final.1.countP (·.saturated)
    let forms := p.loop = .closed ∨ p.loop = .held
    let words := (w.tfu.active.toList.take s.drp.settings.actuators).map fun r =>
      BitVec.ofInt 16 (roundDiv r.acc 256)
    let u : State := { s with
      tfu := { s.tfu with active := w.tfu.active }
      drp := if forms then s.drp.join ⟨p.tag, p.loop == .held, words, s.drp.settings⟩ else s.drp }
    let v := (u.superviseCompletion p.tag saturated final.2).updDesc p.buffer fun d =>
      { d with outcome := some .completed }
    let y := ((v.recordOutcome p.buffer ⟨.completed, none, some p.loop, some p.bank, some p.attachedAt,
      some s.ctu.timebase, saturated, final.2, p.residuals, if forms then some words else none⟩).retire
        p.buffer).freeIfReleased p.buffer
    (∀ (i : Nat) (r : ActiveRecord), s.tfu.active.toList[i]? = some r → w.tfu.active.toList[i]? = some
      (match final.1[i]? with
      | some l => { r with
          acc := l.value, saturations := r.saturations + (if l.saturated = true then 1 else 0) }
      | none => r)) ∧
    w = (if s.lsv.loop = .closed ∧ s.lsv.saturationLimit ≠ 0 ∧ s.lsv.saturationLimit ≤ saturated then
      y.freeze .saturation p.tag
    else y)) ∧
  (∀ (lines : List PassLine) (n : Nat) (q : ActuatorPair), takePair (lines, n) q =
    match lines[q.first]?, lines[q.second]? with
    | some f, some g =>
      let d : Int := 256 * q.maxDiff
      let m := if f.value < g.value then
          (let m := pairMove g.params.enabled f.params.enabled g.value f.value d; (m.2, m.1))
        else pairMove f.params.enabled g.params.enabled f.value g.value d
      if m = (f.value, g.value) then (lines, n)
      else ((lines.set q.first { f with value := m.1 }).set q.second { g with value := m.2 }, n + 1)
    | _, _ => (lines, n)) ∧
  (∀ (d : Drp) (x : Slice),
    let kept := (d.queue.filter fun q => frameBefore q.tag x.tag) ++ [x]
    let final := if 2 < kept.length then kept.tail else kept
    d.join x = { d with
      queue := final
      counts := { d.counts with
        overruns := d.counts.overruns + BitVec.ofNat 32 (d.queue.length + 1 - final.length) } }) ∧
  (∀ (s : State) (p : FilterPass), s.inReset = false → s.tfu.pass = some p → s.tfu.applyDue = false →
    s.clp.inExec = none → s.rce.state ≠ .delivering →
    (∀ (i : Nat) (v : Int) (r : ActiveRecord), p.values[i]? = some v → s.tfu.active.toList[i]? = some r → v = r.acc) →
    ∃ t : State, exec .filterPassEnd s = .next t.settle ∧ t.tfu.pass = none ∧
      (t.desc p.buffer).outcome = some .completed ∧
      t.lsv.counts.completed = s.lsv.counts.completed + 1 ∧ t.lsv.skips = 0 ∧
      (p.loop ≠ .closed → t.tfu.active = s.tfu.active ∧
        t.lsv.counts.actuatorSaturations = s.lsv.counts.actuatorSaturations ∧
        t.lsv.counts.pairAdjustments = s.lsv.counts.pairAdjustments) ∧
      (p.loop ≠ .closed → p.loop ≠ .held → t.drp = s.drp) ∧
      t.tfu.shadow = s.tfu.shadow ∧ t.links = s.links ∧ t.mmc.dram = s.mmc.dram ∧ t.ctu = s.ctu)

/-- WRITE_ACTUATORS and WRITE_PAIRS change the shadow alone, after the checks of R101 and R103: PENDING while
an apply is pending, INVALID for a range or a record out of order, a leak above 65,536, a pair's index above
1,023 or a pair of one actuator with itself, and for a flag word that encodes none (log entry 34, DEDUCED);
else the records or pairs carried stand in the slots from the first on and every other slot is kept;
APPLY_PARAMETERS is refused PENDING while one is pending, makes the apply in STOPPED, and is ACCEPTED while
the loop runs (R104, R105); CANCEL_APPLY clears a pending apply or is refused WRONG_STATE (R107). An apply
(R104): every active record takes its shadow record's five parameters, keeps its saturation count, and has its
accumulator clamped into the new limits; the active pair list becomes the shadow's; apply pending and apply
due are clear; shadow and running pass are as before. -/
def Obligations.ParametersAreStaged : Prop :=
  (∀ (s : State) (tag first n : Word) (records : List Word), records.length = 6 * n.toNat →
    s.Ready (first :: n :: records) →
    exec (.writeActuators tag (first :: n :: records)) s = .next (State.transmit
      (if s.tfu.applyPending = true then s.answered 19 tag .pending []
      else if 1023 < first.toNat ∨ n.toNat < 1 ∨ 128 < n.toNat ∨ 1024 < first.toNat + n.toNat then
        s.answered 19 tag .invalid []
      else match paramsOf records with
        | none => s.answered 19 tag .invalid []
        | some ps =>
          State.answered { s with tfu := { s.tfu with shadow := writeFrom s.tfu.shadow first.toNat ps } }
            19 tag .ok []))) ∧
  (∀ (s : State) (tag first n count : Word) (records : List Word), records.length = 3 * n.toNat →
    s.Ready (first :: n :: count :: records) →
    exec (.writePairs tag (first :: n :: count :: records)) s = .next (State.transmit
      (if s.tfu.applyPending = true then s.answered 20 tag .pending []
      else if 2047 < first.toNat ∨ n.toNat < 1 ∨ 256 < n.toNat ∨ 2048 < first.toNat + n.toNat ∨
          2048 < count.toNat then s.answered 20 tag .invalid []
      else match pairsOf records with
        | none => s.answered 20 tag .invalid []
        | some ps =>
          State.answered { s with tfu := { s.tfu with
            shadowPairs := ⟨writeFrom s.tfu.shadowPairs.slots first.toNat ps, count.toNat⟩ } }
            20 tag .ok []))) ∧
  (∀ (s : State) (tag : Word), s.Ready [] →
    exec (.applyParameters tag []) s = .next (State.transmit
      (if s.tfu.applyPending = true then s.answered 21 tag .pending []
      else if s.lsv.loop = .stopped then State.answered { s with tfu := s.tfu.apply } 21 tag .ok []
      else State.answered { s with tfu := { s.tfu with applyPending := true } } 21 tag .accepted []))) ∧
  (∀ (s : State) (tag : Word), s.Ready [] →
    exec (.cancelApply tag []) s = .next (State.transmit
      (if s.tfu.applyPending = true then
        State.answered { s with tfu := { s.tfu with applyPending := false, applyDue := false } } 22 tag .ok []
      else s.answered 22 tag .wrongState []))) ∧
  (∀ t : Tfu,
    (∀ i r p, i < 1024 → t.active.toList[i]? = some r → t.shadow.toList[i]? = some p →
      t.apply.active.toList[i]? = some ⟨p,
        if r.acc < 256 * p.lo.toInt then 256 * p.lo.toInt
        else if 256 * p.hi.toInt < r.acc then 256 * p.hi.toInt else r.acc, r.saturations⟩) ∧
    t.apply.activePairs = t.shadowPairs ∧ t.apply.applyPending = false ∧ t.apply.applyDue = false ∧
    t.apply.shadow = t.shadow ∧ t.apply.shadowPairs = t.shadowPairs ∧ t.apply.pass = t.pass) ∧
  (∀ (n : Nat) (records : List Word), records.length = 6 * n →
    let w (i j : Nat) : Word := records.getD (6 * i + j) 0
    let leak (i : Nat) : Nat := 65536 * (w i 2).toNat + (w i 3).toNat
    (paramsOf records = none ↔
      ∃ i, i < n ∧ (1 < (w i 0).toNat ∨ 65536 < leak i ∨ (w i 5).toInt < (w i 4).toInt)) ∧
    ∀ ps, paramsOf records = some ps → ps.length = n ∧ ∀ i, i < n →
      ps[i]? = some ⟨decide (w i 0 = 1), w i 1, leak i, w i 4, w i 5⟩) ∧
  (∀ (n : Nat) (records : List Word), records.length = 3 * n →
    let w (i j : Nat) : Nat := (records.getD (3 * i + j) 0).toNat
    (pairsOf records = none ↔ ∃ i, i < n ∧ (1023 < w i 0 ∨ 1023 < w i 1 ∨ w i 0 = w i 1)) ∧
    ∀ ps, pairsOf records = some ps → ps.length = n ∧ ∀ i, i < n → ps[i]? = some ⟨w i 0, w i 1, w i 2⟩) ∧
  (∀ (n : Nat) (α : Type) (slots : Vector α n) (first : Nat) (carried : List α) (i : Nat), i < n →
    (writeFrom slots first carried).toList[i]? =
      if first ≤ i ∧ i < first + carried.length then carried[i - first]? else slots.toList[i]?)

/-- PRESET_COMMANDS (R117): WRONG_STATE in CLOSED, INVALID for a range outside the table; else, with no pass
running, each named accumulator becomes 256 times its value clamped to its limits, and the reply counts
the values the clamp changed; with a pass running the request waits for its end, where the preset is made
in the same way. -/
def Obligations.PresetSetsTheAccumulators : Prop :=
  (∀ (s : State) (tag first n : Word) (values : List Word), values.length = n.toNat →
    s.Ready (first :: n :: values) →
    if s.lsv.loop = .closed then
      exec (.presetCommands tag (first :: n :: values)) s = .next (s.answered 23 tag .wrongState []).transmit
    else if 1023 < first.toNat ∨ n.toNat < 1 ∨ 1024 < n.toNat ∨ 1024 < first.toNat + n.toNat then
      exec (.presetCommands tag (first :: n :: values)) s = .next (s.answered 23 tag .invalid []).transmit
    else if s.tfu.pass ≠ none then
      exec (.presetCommands tag (first :: n :: values)) s =
        .next (s.started 23 tag (first :: n :: values) (.pass first.toNat values)).transmit
    else
      ∃ (t : State) (clamped : Nat),
        exec (.presetCommands tag (first :: n :: values)) s =
          .next (t.answered 23 tag .ok [BitVec.ofNat 16 clamped]).transmit ∧
        t = { s with tfu := { s.tfu with active := t.tfu.active } } ∧
        clamped = ((List.range 1024).filter fun i => (values[i - first.toNat]?).any fun v =>
          decide (first.toNat ≤ i) && (s.tfu.active.toList[i]?).any fun r =>
            decide (256 * v.toInt < r.params.low ∨ r.params.high < 256 * v.toInt)).length ∧
        ∀ i r, s.tfu.active.toList[i]? = some r →
          t.tfu.active.toList[i]? = some (if first.toNat ≤ i then
            match values[i - first.toNat]? with
            | some v => { r with acc :=
                if 256 * v.toInt < r.params.low then r.params.low
                else if r.params.high < 256 * v.toInt then r.params.high else 256 * v.toInt }
            | none => r
          else r)) ∧
  (∀ (s : State) (r : Request) (first : Nat) (values : List Word), s.clp.inExec = some ⟨r, .pass first values⟩ →
    ∃ (t : State) (clamped : Nat),
      s.makePreset first values = State.complete t .ok [BitVec.ofNat 16 clamped] ∧
      t = { s with tfu := { s.tfu with active := t.tfu.active } } ∧
      clamped = ((List.range 1024).filter fun i => (values[i - first]?).any fun v =>
        decide (first ≤ i) && (s.tfu.active.toList[i]?).any fun q =>
          decide (256 * v.toInt < q.params.low ∨ q.params.high < 256 * v.toInt)).length ∧
      ∀ i q, s.tfu.active.toList[i]? = some q →
        t.tfu.active.toList[i]? = some (if first ≤ i then
          match values[i - first]? with
          | some v => { q with acc :=
              if 256 * v.toInt < q.params.low then q.params.low
              else if q.params.high < 256 * v.toInt then q.params.high else 256 * v.toInt }
          | none => q
        else q))

/-! ### The loop, the counters and the settings -/

/-- SET_LOOP to a running state, or to the state in force (R121, R122): the loop state alone changes, the trip
cause to none where CLOSED is entered, and the reply carries the state found and the state after. A value
that is no loop state is INVALID. -/
def Obligations.SetLoopEntersARunningState : Prop :=
  ∀ (s : State) (tag : Word),
    (∀ w : Word, 3 < w.toNat → s.Ready [w] →
      exec (.setLoop tag [w]) s = .next (s.answered 11 tag .invalid []).transmit) ∧
    (∀ target : LoopState, target ≠ .stopped ∨ s.lsv.loop = .stopped →
      s.Ready [BitVec.ofNat 16 target.number] →
      exec (.setLoop tag [BitVec.ofNat 16 target.number]) s = .next (State.transmit (State.answered
        { s with lsv := { s.lsv with
            loop := target
            tripCause := if target = .closed ∧ s.lsv.loop ≠ .closed then none else s.lsv.tripCause } }
        11 tag .ok [BitVec.ofNat 16 s.lsv.loop.number, BitVec.ofNat 16 target.number])))

/-- SET_LOOP to STOPPED from a running state (R123, R32, R48, R81, R98, R108, R114, R160): the effects of the
entry on every block. Both buffers are FREE with the descriptor of R28, tag and timestamps kept, the rotation
point at link 7 and A next to open (R29, R30); their slots have no meaning (R28). A packet being copied gets
NOT_STORED; a record whose slope copy is not done is cut, its waiting burst withdrawn and a granted one no longer
heeded; a running pass is cut off, then a pending apply is made whole (R104, R114), and a pending swap; their
notices name STOP, the apply's first (that order is the model's choice, DESIGN CHOICE, log entry 23). A WAITING or
DELIVERING engine is IDLE with nothing attached or offered; so is a BUSY one, its waiting burst withdrawn (R68,
R96), unless a granted burst of it transfers: then that burst's data is no longer heeded and the engine is
DRAINING with its cycle's values until it ends. Row sums discarded stand (DESIGN CHOICE, log entry 28). With the
engine IDLE at once the reply follows at once; while it drains the request waits with stop in progress set, and
is answered at the engine's report of IDLE (R98, R123). The other fields of every block stand as they were. -/
def Obligations.SetLoopStopsEveryBlock : Prop :=
  (∀ (s : State) (tag : Word), s.Ready [0] → s.lsv.loop ≠ .stopped →
    let lost := [BufferId.a, .b].countP fun x =>
      ((s.desc x).state == .opened || (s.desc x).state == .closed) && (s.desc x).outcome == none
    let cut := s.tmr.writing.any (·.holds)
    let transfers := decide (s.rce.state = .busy) && s.enginePort
    let drains := decide (s.rce.state = .draining) || transfers
    ∃ u : State, exec (.setLoop tag [0]) s = .next u.transmit ∧
      u.lsv = { s.lsv with
        loop := .stopped, stopInProgress := drains
        counts := { s.lsv.counts with abandoned := s.lsv.counts.abandoned + BitVec.ofNat 32 lost } } ∧
      (∀ x, u.desc x =
        { tag := (s.desc x).tag, state := .free, cause := none, relation := .none, outcome := none
          skip := none, sensors := Vector.replicate 8 ⟨0, false, false⟩, ready := [], markers := 0
          openedAt := (s.desc x).openedAt, closedAt := (s.desc x).closedAt }) ∧
      u.sau.copy = none ∧ u.sau.heldExpiry = false ∧ u.sau.lastClosed = none ∧ u.sau.closeOrder = [] ∧
      u.sau.rotation = 7 ∧ u.sau.lastOpened = .b ∧ u.freeBuffer = some .a ∧
      u.links = (match s.sau.copy with
        | some c => (s.updLink c.link fun x => x.returnOutcome .notStored).links
        | none => s.links) ∧
      u.ctu = { s.ctu with deadlineAt := none } ∧
      u.tfu = { (if s.tfu.applyPending = true then s.tfu.apply else s.tfu) with pass := none } ∧
      u.mmc = { s.mmc with
        active := s.mmc.swap.getD s.mmc.active, swap := none
        engineWaits := if s.rce.state = .busy then none else s.mmc.engineWaits
        recorderWaits := if cut = true then none else s.mmc.recorderWaits
        port := s.mmc.port.map fun p =>
          if (p.who = .telemetry ∧ cut = true) ∨ (p.who = .engine ∧ s.rce.state = .busy) then
            { p with dropped := true }
          else p } ∧
      u.rce = (if transfers = true then { s.rce with state := .draining }
        else if s.rce.state = .idle ∨ s.rce.state = .draining then s.rce
        else ⟨.idle, none, none, none, s.rce.sums, none, none, 0, []⟩) ∧
      u.tmr = (if cut = true then
          { s.tmr with writing := none, counts := { s.tmr.counts with cut := s.tmr.counts.cut + 1 } }
        else s.tmr) ∧
      u.drp = { s.drp with queue := [] } ∧
      (let n := if s.tfu.applyPending = true then s.raise (.paramsApplied .stop) else s
       u.clp = { s.clp with
        notices := (match s.mmc.swap with
          | some k => (n.raise (.swapDone k none)).clp.notices
          | none => n.clp.notices)
        inExec := if drains = true then some ⟨⟨11, tag, [0]⟩, .engine s.lsv.loop⟩ else none
        replies := s.clp.replies ++ [if drains = true then .pending
          else .ready ⟨11, tag, .ok, [BitVec.ofNat 16 s.lsv.loop.number, 0]⟩] }) ∧
      u.pending = s.pending ∧ u.inReset = false ∧ u.ringOut = s.ringOut ∧ u.controlOut = s.controlOut ∧
      u.drawn = s.drawn) ∧
  (∀ s : State, s.reportIdle =
    if s.rce.state = .idle ∧ s.lsv.stopInProgress = true then
      match s.clp.inExec with
      | some ⟨_, .engine found⟩ =>
        State.complete { s with lsv := { s.lsv with stopInProgress := false } } .ok [BitVec.ofNat 16 found.number, 0]
      | _ => s
    else s)

/-- SET_TRIP (R129): limits out of range are INVALID and change nothing, else both are replaced in every loop
state and nothing else changes. A skip trip is made at a SKIPPED outcome in CLOSED whose new count is at
least a limit that is not 0, a saturation trip likewise at a COMPLETED one. Both limits are 0 after a hard
reset and stand after a soft one. What the two outcomes do whole: their counts, CYCLE_SKIPPED, and at a trip
HELD, the cause, the frame and LOOP_TRIPPED with value and limit (R125, R126, R128); a SKIPPED outcome is
then taken by the recorder, which freezes after it at a trip (R156, R162). -/
def Obligations.SetTripReplacesBothLimits : Prop :=
  (∀ (s : State) (tag k n : Word), s.Ready [k, n] →
    exec (.setTrip tag [k, n]) s = .next (State.transmit
      (if 255 < k.toNat ∨ 1024 < n.toNat then s.answered 12 tag .invalid []
      else State.answered { s with lsv := { s.lsv with
        skipLimit := k.toNat, saturationLimit := n.toNat } } 12 tag .ok []))) ∧
  (∀ (s : State) (tag : Word) (cause : SkipCause),
    let n := satSucc s.lsv.skips
    let c := s.lsv.counts
    let t := State.raise { s with lsv := { s.lsv with
      skips := n
      counts := { c with
        skippedMissing := c.skippedMissing + (if cause = .missing then 1 else 0)
        skippedMemory := c.skippedMemory + (if cause = .memory then 1 else 0) } } } (.cycleSkipped tag cause n)
    s.superviseSkip tag cause =
      if s.lsv.loop = .closed ∧ s.lsv.skipLimit ≠ 0 ∧ s.lsv.skipLimit ≤ n.toNat then
        State.raise { t with lsv := { t.lsv with loop := .held, tripCause := some .skips, tripFrame := tag } }
          (.loopTripped .skips tag n.toNat s.lsv.skipLimit)
      else t) ∧
  (∀ (s : State) (tag : Word) (saturated adjustments : Nat),
    let c := s.lsv.counts
    let t : State := { s with lsv := { s.lsv with
      skips := 0
      counts := { c with
        completed := c.completed + 1
        actuatorSaturations := c.actuatorSaturations + BitVec.ofNat 32 saturated
        pairAdjustments := c.pairAdjustments + BitVec.ofNat 32 adjustments } } }
    s.superviseCompletion tag saturated adjustments =
      if s.lsv.loop = .closed ∧ s.lsv.saturationLimit ≠ 0 ∧ s.lsv.saturationLimit ≤ saturated then
        State.raise { t with lsv := { t.lsv with loop := .held, tripCause := some .saturation, tripFrame := tag } }
          (.loopTripped .saturation tag saturated s.lsv.saturationLimit)
      else t) ∧
  (∀ (s : State) (x : BufferId) (cause : SkipCause) (r : CycleReport),
    let tag := (s.desc x).tag
    let t := (s.updDesc x fun d => { d with outcome := some .skipped, skip := some cause }).superviseSkip tag cause
    s.giveSkip x cause r =
      if s.lsv.loop = .closed ∧ s.lsv.skipLimit ≠ 0 ∧ s.lsv.skipLimit ≤ (satSucc s.lsv.skips).toNat then
        (t.recordOutcome x r).freeze .skips tag
      else t.recordOutcome x r) ∧
  (∀ s : State, s.hardResetAll.lsv.skipLimit = 0 ∧ s.hardResetAll.lsv.saturationLimit = 0 ∧
    s.softResetAll.lsv.skipLimit = s.lsv.skipLimit ∧
    s.softResetAll.lsv.saturationLimit = s.lsv.saturationLimit)

/-- READ_COUNTERS changes nothing and carries 107 counts of two words: per link the ten of R23, the two of
R64, the fifteen of R130, the six of R149, the four of the control link port (R176). CLEAR_COUNTERS is refused
while the loop runs; in STOPPED it sets the cycle counters, the skip count, every link's counters, the two
error counts and the saturation counts to 0, and nothing else (R131). -/
def Obligations.CountersAreReadAndCleared : Prop :=
  (∀ (s : State) (tag : Word), s.Ready [] →
    let link (l : Link) : List Count :=
      let c := (s.link l).counts
      [c.good, c.crc, c.framing, c.misrouted, c.outOfWindow, c.lengthErrors, c.aborts, c.syncLosses, c.overruns,
        c.markers]
    let c := s.lsv.counts
    let cycle : List Count :=
      [c.opened, c.completed, c.skippedMissing, c.skippedMemory, c.abandoned, c.closedComplete, c.closedEnded,
        c.closedDeadline, c.closedOvertaken, c.lateTicks, c.emptyTicks, c.residualSaturations,
        c.actuatorSaturations, c.pairAdjustments, c.absentBlocks]
    let r := s.drp.counts
    let ring : List Count := [r.sent, r.stale, r.overruns, r.collisions, r.violations, r.badHeads]
    let port : List Count := [s.clp.receiveErrors, s.clp.syncLosses, s.clp.queueFull, s.clp.dropped]
    let all := link 0 ++ link 1 ++ link 2 ++ link 3 ++ link 4 ++ link 5 ++ link 6 ++ link 7 ++
      [s.mmc.corrected, s.mmc.uncorrectable] ++ cycle ++ ring ++ port
    all.length = 107 ∧
    exec (.readCounters tag []) s = .next (s.answered 2 tag .ok
      (all.map fun c => [c.extractLsb' 16 16, c.extractLsb' 0 16]).flatten).transmit) ∧
  (∀ (s : State) (tag : Word), s.Ready [] → s.lsv.loop ≠ .stopped →
    exec (.clearCounters tag []) s = .next (s.answered 3 tag .wrongState []).transmit) ∧
  (∀ (s : State) (tag : Word), s.Ready [] → s.lsv.loop = .stopped →
    ∃ t : State, exec (.clearCounters tag []) s = .next (t.answered 3 tag .ok []).transmit ∧
      (∀ l, t.link l = { s.link l with counts := .zero }) ∧
      (∀ (i : Nat) (r : ActiveRecord), s.tfu.active.toList[i]? = some r →
        t.tfu.active.toList[i]? = some { r with saturations := 0 }) ∧
      t = { s with
        links := t.links
        mmc := { s.mmc with corrected := 0, uncorrectable := 0 }
        tfu := { s.tfu with active := t.tfu.active }
        lsv := { s.lsv with skips := 0, counts := .zero } })

/-- SET_SENSOR: the five checks of R13 in order, the sensor number's among them; else the entry is replaced,
and the receiver goes from DISABLED to HUNT, or to DISABLED with what it was storing lost and its current
record closed with SYNC_LOST, or stays (R14, R20). The counters, the delivered packets and every other link
are kept. -/
def Obligations.SetSensorReplacesTheMapEntry : Prop :=
  (∀ (s : State) (tag sensor en base blocks slopes role : Word), 7 < sensor.toNat →
    s.Ready [sensor, en, base, blocks, slopes, role] →
    exec (.setSensor tag [sensor, en, base, blocks, slopes, role]) s = .next (State.transmit
      (s.answered 6 tag (if s.running = true ∨ s.tmr.enabled = true then .wrongState else .invalid) []))) ∧
  (∀ (s : State) (tag en base blocks slopes role : Word) (l : Link),
    s.Ready [BitVec.ofNat 16 l.val, en, base, blocks, slopes, role] →
    let e : MapEntry := ⟨decide (en = 1), base.toNat, blocks.toNat, slopes.toNat,
      if role = 0 then .essential else .optional⟩
    exec (.setSensor tag [BitVec.ofNat 16 l.val, en, base, blocks, slopes, role]) s = .next (State.transmit
      (if s.running = true ∨ s.tmr.enabled = true then s.answered 6 tag .wrongState []
      else if 1 < en.toNat ∨ 63 < base.toNat ∨ blocks.toNat < 1 ∨ 16 < blocks.toNat ∨ 1 < role.toNat then
        s.answered 6 tag .invalid []
      else if 64 < e.base + e.blocks then s.answered 6 tag .invalid []
      else if e.slopes ≤ 256 * (e.blocks - 1) ∨ 256 * e.blocks < e.slopes then s.answered 6 tag .invalid []
      else if en = 1 ∧ ((List.finRange 8).any fun k => decide (k ≠ l) && (s.link k).entry.enabled &&
          decide (e.base < (s.link k).entry.base + (s.link k).entry.blocks) &&
          decide ((s.link k).entry.base < e.base + e.blocks)) = true then s.answered 6 tag .overlap []
      else State.answered (s.updLink l fun x =>
        if x.entry.enabled = false then
          { x with entry := e, receiver := if en = 1 then .hunt else x.receiver }
        else if en = 1 then { x with entry := e }
        else
          LinkState.closeRecord { x with
            entry := e
            receiver := .disabled
            storing := none
            buffer0 := if x.storing = some .zero then ⟨.free, []⟩ else x.buffer0
            buffer1 := if x.storing = some .one then ⟨.free, []⟩ else x.buffer1
            current := x.current.map fun r => ⟨{ r.record with syncLost := true }, r.owed⟩ })
        6 tag .ok [])))

/-- SET_TIMING: a value outside the table is INVALID, another compute order while the loop runs WRONG_STATE;
else the five settings are replaced together. A switch to PACED starts the pace timer with the new period,
PACED kept leaves it running, any other trigger stops it (R58, R61). With an IDLE engine a switch to
IMMEDIATE attaches the oldest buffer that awaits computation (R56); with one that is not IDLE it attaches
nothing. -/
def Obligations.SetTimingReplacesTheSettings : Prop :=
  (∀ (s : State) (tag trigger period edge deadline order : Word),
    s.Ready [trigger, period, edge, deadline, order] →
    2 < trigger.toNat ∨ period.toNat < 100 ∨ 1 < edge.toNat ∨ deadline.toNat < 10 ∨ 1 < order.toNat →
    exec (.setTiming tag [trigger, period, edge, deadline, order]) s =
      .next (s.answered 9 tag .invalid []).transmit) ∧
  (∀ (s : State) (tag period deadline : Word) (g : Trigger) (d : Edge) (o : ComputeOrder),
    let payload : List Word := [BitVec.ofNat 16 g.number, period, BitVec.ofNat 16 (edgeNumber d), deadline,
      BitVec.ofNat 16 o.number]
    let ctu := { s.ctu with
      trigger := g, pacePending := period.toNat, edge := d, deadline := deadline.toNat, order := o
      paceCurrent := if g = .paced ∧ s.ctu.trigger ≠ .paced then period.toNat else s.ctu.paceCurrent
      paceAt := if g = .paced then
          (if s.ctu.trigger = .paced then s.ctu.paceAt
          else some (s.ctu.timebase + microseconds period.toNat))
        else none }
    s.Ready payload → 100 ≤ period.toNat → 10 ≤ deadline.toNat →
    (o ≠ s.ctu.order → s.running = true →
      exec (.setTiming tag payload) s = .next (s.answered 9 tag .wrongState []).transmit) ∧
    (o = s.ctu.order ∨ s.running = false →
      (g ≠ .immediate ∨ s.ctu.trigger = .immediate ∨ o = .stream ∨
          (s.rce.state ≠ .idle ∧ (s.rce.state = .delivering → s.tfu.pass ≠ none)) →
        exec (.setTiming tag payload) s = .next (State.transmit
          (State.answered { s with ctu := ctu } 9 tag .ok []))) ∧
      (g = .immediate → s.ctu.trigger ≠ .immediate → o = .batch →
        let u : State := { s.started 9 tag payload .now with ctu := ctu }
        exec (.setTiming tag payload) s = .next (State.transmit (u.attachOnIdle.offer.complete .ok [])) ∧
        (s.rce.state = .idle →
          exec (.setTiming tag payload) s = .next (State.transmit
            (if s.running = true then
              match s.oldestWaiting with
              | some x => ((u.attach x).offer).complete .ok []
              | none => u.complete .ok []
            else u.complete .ok []))))))

/-! ### The reports -/

/-- IDENTIFY answers OK in every state with what R174 lists, and changes nothing; the last reset is HARD with
a reset point of 0 after a hard reset, and SOFT with the timebase of that moment after a soft one; either
sets the timebase to 0. -/
def Obligations.IdentifyReportsThePart : Prop :=
  (∀ (s : State) (tag : Word), s.Ready [] →
    exec (.identify tag []) s = .next (State.transmit (s.answered 0 tag .ok
      [0x4E4A, 0x1610, 1, 8, 1024, 2, 0, 2048, if s.clp.lastReset = .soft then 1 else 0,
        s.clp.resetPoint.extractLsb' 16 16, s.clp.resetPoint.extractLsb' 0 16]))) ∧
  (∀ s : State, s.hardResetAll.clp.lastReset = .hard ∧ s.hardResetAll.clp.resetPoint = 0 ∧
    s.hardResetAll.ctu.timebase = 0 ∧ s.softResetAll.clp.lastReset = .soft ∧
    s.softResetAll.clp.resetPoint = s.ctu.timebase ∧ s.softResetAll.ctu.timebase = 0)

/-- READ_STATUS, READ_LINK_STATUS and READ_ACTUATORS change nothing and carry what R175, R25 and R118 list,
item by item, encoded as R179 lays down: one group for each of the nine blocks, each after its length (R181),
and enumerations numbered in the order of their tables (those of replies and notices: ArbiterPrefersReplies).
The order of words within a group where R175 lists only items, the two items of the store geometry's sensors
and block counts, the value 2 of no attached buffer, and the request's own pending reply in the reply queue
depth are log entry 16's (DEDUCED). A link, a range or a selector out of range is INVALID. -/
def Obligations.ReportsReadTheState : Prop :=
  let one (n : Nat) : Word := BitVec.ofNat 16 n
  let two (n : Nat) : List Word := [BitVec.ofNat 16 (n / 65536), BitVec.ofNat 16 n]
  let bit (b : Bool) : Word := if b = true then 1 else 0
  let opt (o : Option Nat) : List Word := match o with
    | some n => [1, BitVec.ofNat 16 n]
    | none => [0, 0]
  (∀ (s : State) (tag : Word), s.Ready [] →
    let clp : List Word := [one 0, one (s.clp.replies.length + 1), one s.clp.notices.length] ++
      s.clp.notices.map (fun n => one n.payload.kind.number) ++ [s.clp.mask.setWidth 16]
    let c := s.ctu
    let ctu : List Word := two c.timebase.toNat ++
      [one c.trigger.number, one c.pacePending, one (edgeNumber c.edge), one c.deadline, one c.order.number,
        one c.paceCurrent, one c.pacePending, bit c.deadlineAt.isSome, bit c.paceAt.isSome]
    let desc (x : BufferId) : List Word :=
      let d := s.desc x
      [d.tag, one d.state.number, one ((d.cause.map ClosureCause.number).getD 0), one d.relation.number,
        one ((d.outcome.map CycleOutcome.number).getD 0), one ((d.skip.map SkipCause.number).getD 0)] ++
      ((List.finRange 8).map fun l =>
        [d.sensors[l].accepted, bit d.sensors[l].endSeen, bit d.sensors[l].complete]).flatten ++
      one d.ready.length :: d.ready.map one ++ one d.markers :: two d.openedAt.toNat ++ two d.closedAt.toNat
    let sau : List Word := desc .a ++ desc .b ++ opt (s.sau.lastClosed.map (·.toNat)) ++
      [one (s.freeBuffer.getD s.sau.lastOpened.other).number]
    let directory (k : BankId) : List Word := ((s.bank k).directory.toList.map fun e =>
      bit e.present :: two e.base ++ two e.pages).flatten
    let mmc : List Word := one s.mmc.active.number :: opt (s.mmc.swap.map BankId.number) ++
      [one (s.bank .zero).shift, one (s.bank .one).shift] ++ directory .zero ++ directory .one
    let rce : List Word := [one s.rce.state.number, one ((s.rce.attached.map BufferId.number).getD 2)] ++
      opt (s.rce.bank.map BankId.number) ++ opt s.rce.shift
    let tfu : List Word := [bit s.tfu.applyPending, bit s.tfu.applyDue, bit s.tfu.pass.isSome]
    let lsv : List Word := [one s.lsv.loop.number, one ((s.lsv.tripCause.map TripCause.number).getD 0),
      s.lsv.tripFrame, s.lsv.skips, one s.lsv.skipLimit, one s.lsv.saturationLimit]
    let p := s.drp
    let drp : List Word := [one p.settings.id, one p.settings.actuators, one p.settings.firstGlobal,
        one p.state.number, bit p.markPassed, bit p.headSeen, bit p.leaveRequested] ++
      opt (p.train.map (·.toNat)) ++ [bit p.transmit, one p.queue.length] ++
      (p.queue.map fun q => [q.tag, bit q.held]).flatten
    let t := s.tmr
    let k := t.config.getD ⟨0, 0, ⟨false, false, false⟩, 0, .ring, 0⟩
    let g := t.geometry.getD ⟨0, 0, 0, [0, 0, 0, 0, 0, 0, 0, 0]⟩
    let tmr : List Word := bit t.config.isSome :: two k.base ++ two k.pages ++
      [one ((bit k.sections.slopes).toNat + 2 * (bit k.sections.residuals).toNat +
          4 * (bit k.sections.commands).toNat),
        one k.decimation, one k.mode.number, one k.threshold, bit t.enabled, bit t.frozen, bit t.geometry.isSome,
        one g.slotSize] ++ two g.capacity ++
      [one g.actuators, one (((List.range 8).filter fun i => g.blocks.getD i 0 != 0).map (2 ^ ·)).sum] ++
      g.blocks.map one ++ two t.unread.length ++ opt (t.writing.map (·.tag.toNat)) ++
      ([t.counts.written, t.counts.late, t.counts.overwritten, t.counts.full, t.counts.cut].map fun c =>
        two c.toNat).flatten
    exec (.readStatus tag []) s = .next (State.transmit (s.answered 1 tag .ok
      ([clp, ctu, sau, mmc, rce, tfu, lsv, drp, tmr].map fun g => one g.length :: g).flatten))) ∧
  ([ReceiverState.disabled, .hunt, .sync, .receiving].map ReceiverState.number = [0, 1, 2, 3] ∧
    [PacketState.free, .filling, .delivered].map PacketState.number = [0, 1, 2] ∧
    [Role.essential, .optional].map Role.number = [0, 1] ∧
    [BufferState.free, .opened, .closed, .retiring].map BufferState.number = [0, 1, 2, 3] ∧
    [ClosureCause.complete, .ended, .deadline, .overtaken].map ClosureCause.number = [1, 2, 3, 4] ∧
    [EngineRelation.none, .attached, .done].map EngineRelation.number = [0, 1, 2] ∧
    [CycleOutcome.completed, .skipped, .abandoned].map CycleOutcome.number = [1, 2, 3] ∧
    [SkipCause.missing, .memory].map SkipCause.number = [1, 2] ∧
    [Trigger.immediate, .paced, .external].map Trigger.number = [0, 1, 2] ∧
    [Edge.rising, .falling].map edgeNumber = [0, 1] ∧
    [ComputeOrder.batch, .stream].map ComputeOrder.number = [0, 1] ∧
    [BankId.zero, .one].map BankId.number = [0, 1] ∧ [BufferId.a, .b].map BufferId.number = [0, 1] ∧
    [EngineState.idle, .waiting, .busy, .delivering, .draining].map EngineState.number = [0, 1, 2, 3, 4] ∧
    [LoopState.stopped, .opened, .closed, .held].map LoopState.number = [0, 1, 2, 3] ∧
    [TripCause.skips, .saturation].map TripCause.number = [1, 2] ∧
    [RingState.bypass, .joining, .listening, .onRing, .sending, .leaving].map RingState.number =
      [0, 1, 2, 3, 4, 5] ∧
    [TelemetryMode.ring, .queue].map TelemetryMode.number = [0, 1]) ∧
  (∀ (s : State) (tag w : Word), s.Ready [w] → 7 < w.toNat →
    exec (.readLinkStatus tag [w]) s = .next (s.answered 7 tag .invalid []).transmit) ∧
  (∀ (s : State) (tag : Word) (l : Link), s.Ready [BitVec.ofNat 16 l.val] →
    let x := s.link l
    let e := x.entry
    let c := x.counts
    exec (.readLinkStatus tag [BitVec.ofNat 16 l.val]) s = .next (State.transmit (s.answered 7 tag .ok
      ([one x.receiver.number, bit (x.receiver == .receiving && x.storing.isNone), bit e.enabled, one e.base,
          one e.blocks, one e.slopes, one e.role.number, one x.buffer0.state.number,
          one x.buffer1.state.number] ++
        (match x.current with
          | some r => 1 :: r.record.words
          | none => [0, 0, 0, 0, 0, 0]) ++
        [one x.closing.length, one x.queue.length, bit x.overflow] ++
        ([c.good, c.crc, c.framing, c.misrouted, c.outOfWindow, c.lengthErrors, c.aborts, c.syncLosses,
          c.overruns, c.markers].map fun c => two c.toNat).flatten)))) ∧
  (∀ (s : State) (tag sel first n : Word), s.Ready [sel, first, n] →
    let fields (p : ActuatorParams) : List Word := [bit p.enabled, p.gain] ++ two p.leak ++ [p.lo, p.hi]
    exec (.readActuators tag [sel, first, n]) s = .next (State.transmit
      (if 1 < sel.toNat ∨ 1023 < first.toNat ∨ n.toNat < 1 ∨ 128 < n.toNat ∨
          1024 < first.toNat + n.toNat then s.answered 24 tag .invalid []
      else s.answered 24 tag .ok
        (n :: (if sel = 0 then
            ((s.tfu.active.toList.drop first.toNat).take n.toNat).map fun r =>
              fields r.params ++ two (BitVec.ofInt 32 r.acc).toNat ++ two r.saturations.toNat
          else ((s.tfu.shadow.toList.drop first.toNat).take n.toNat).map fields).flatten ++
          [one (if sel = 0 then s.tfu.activePairs.count else s.tfu.shadowPairs.count),
            bit s.tfu.applyPending]))))

/-- An outcome returned to a link (R10, R18, R19, R20): the packet's buffer is FREE; of the oldest closing
record, else the current one, the stored count rises or the outcome's flag is set, and END_SEEN for a packet
with END; a closing record that is owed no more outcomes goes to the queue, and a current record ends with its
END packet's outcome; a record joins a queue of fewer than 16, else the overflow flag is set (R21).
READ_FRAME_RECORDS: a link or a maximum out of range is INVALID; else the oldest records leave the link's
queue, the reply carries the overflow flag as it was and those records oldest first, and the clear option
then clears the flag; no other link and nothing else of the link changes (R22). -/
def Obligations.FrameRecordsAreTakenOldestFirst : Prop :=
  (∀ (s : State) (tag w n clear : Word), s.Ready [w, n, clear] →
    7 < w.toNat ∨ n.toNat < 1 ∨ 16 < n.toNat ∨ 1 < clear.toNat →
    exec (.readFrameRecords tag [w, n, clear]) s = .next (s.answered 8 tag .invalid []).transmit) ∧
  (∀ (s : State) (tag n : Word) (l : Link) (clear : Bool),
    let payload : List Word := [BitVec.ofNat 16 l.val, n, if clear = true then 1 else 0]
    s.Ready payload → 1 ≤ n.toNat → n.toNat ≤ 16 →
    let x := s.link l
    exec (.readFrameRecords tag payload) s = .next (State.transmit (State.answered
      (s.updLink l fun y => { y with
        queue := y.queue.drop n.toNat, overflow := if clear = true then false else y.overflow })
      8 tag .ok
      ((if x.overflow = true then 1 else 0) :: BitVec.ofNat 16 (min n.toNat x.queue.length) ::
        ((x.queue.take n.toNat).map FrameRecord.words).flatten)))) ∧
  (∀ (x : LinkState) (o : PacketOutcome), x.returnOutcome o =
    match x.order with
    | [] => x
    | k :: rest => LinkState.takeOutcome { x with
        order := rest
        buffer0 := if k = .zero then ⟨.free, []⟩ else x.buffer0
        buffer1 := if k = .one then ⟨.free, []⟩ else x.buffer1 } o (packetEnd (x.packet k).words)) ∧
  (∀ (x : LinkState) (o : PacketOutcome) (last : Bool),
    let mark (r : FrameRecord) : FrameRecord := { r with
      stored := if o = .stored then (if r.stored = 65535 then r.stored else r.stored + 1) else r.stored
      duplicate := r.duplicate || o == .duplicate
      stale := r.stale || o == .stale
      noBuffer := r.noBuffer || o == .noBuffer
      notStored := r.notStored || o == .notStored
      endSeen := r.endSeen || last }
    x.takeOutcome o last =
      match x.closing, x.current with
      | r :: rest, _ =>
        if 1 < r.owed then { x with closing := ⟨mark r.record, r.owed - 1⟩ :: rest }
        else if x.queue.length < 16 then { x with closing := rest, queue := x.queue ++ [mark r.record] }
        else { x with closing := rest, overflow := true }
      | [], some r =>
        let y := { x with current := some ⟨mark r.record, r.owed - 1⟩ }
        if last = true then y.closeRecord else y
      | [], none => x) ∧
  (∀ r : FrameRecord,
    let bit (b : Bool) (n : Nat) : Nat := if b = true then n else 0
    r.words = [r.frame, r.good, r.crcErrors, r.stored, BitVec.ofNat 16
      (bit r.endSeen 1 + bit r.duplicate 2 + bit r.stale 4 + bit r.noBuffer 8 + bit r.notStored 16 +
        bit r.aborted 32 + bit r.syncLost 64)])

/-! ### The drive ring -/

/-- What a code on ring-in does in each ring state (R134, R136, R137, R141, R142, R148, R150). BYPASS passes
it through, also under a hard reset; JOINING passes it through, a MARK sets mark passed, and the first IDLE
after it is also held for LISTENING; SENDING discards it before its fresh MARK is sent, all but an IDLE
counted as collisions, none in a soft-reset ending. The repeating states send the code they held and hold
this one, a code violation as ABORT and counted, and read heads: HEAD opens a head and sets N to none, the
head word sets N and purges older slices, which are counted stale, and any other code than IDLE breaks an open
head, which is counted. That a ring row brings its code in every state, so that RING_HEAD_WORD with no head
open is a data word, is read from the rows' rules (DEDUCED, log entry 11); that an IDLE in LEAVING leaves only
once a MARK was received there is log entry 21's (DEDUCED); that leaving JOINING clears mark passed, and
entering LISTENING head open, is the model's choice (DESIGN CHOICE, log entry 22). -/
def Obligations.RingPortTakesEachCode : Prop :=
  ∀ (s : State) (i : Instr) (c : Code), ringCodeOf i = some c →
    (s.inReset = true → s.drp.state = .bypass → exec i s = .next { s with ringOut := s.ringOut ++ [c] }) ∧
    (s.inReset = false →
      (s.drp.state = .bypass → exec i s = .next (State.settle { s with ringOut := s.ringOut ++ [c] })) ∧
      (s.drp.state = .joining → (c ≠ .idle ∨ s.drp.markPassed = false) →
        exec i s = .next (State.settle { s with
          ringOut := s.ringOut ++ [c]
          drp := { s.drp with markPassed := s.drp.markPassed || c == .mark } })) ∧
      (s.drp.state = .joining → c = .idle → s.drp.markPassed = true →
        exec i s = .next (State.settle { s with
          ringOut := s.ringOut ++ [.idle]
          drp := { s.drp with
            state := .listening, holding := some .idle, markPassed := false, headSeen := false
            headOpen := false, train := none } })) ∧
      (s.drp.state = .sending → s.drp.resetEnding = true → exec i s = .next s.settle) ∧
      (s.drp.state = .sending → s.drp.resetEnding = false → s.drp.markSent = false →
        exec i s = .next (State.settle { s with drp := { s.drp with counts := { s.drp.counts with
          collisions := s.drp.counts.collisions + (if c = .idle then 0 else 1) } } })) ∧
      (s.drp.state = .listening ∨ s.drp.state = .onRing ∨ s.drp.state = .leaving → c ≠ .mark →
        (s.drp.state = .leaving → c = .idle → s.drp.leaveMark = false) →
        exec i s = .next (State.settle { s with
          ringOut := s.ringOut ++ s.drp.holding.toList
          drp := { s.drp with
            holding := some (if c = .violation then .abort else c)
            headOpen := c == .head || (c == .idle && s.drp.headOpen)
            headSeen := s.drp.headSeen || (c == .head && s.drp.state == .listening)
            train := match c with
              | .head => none
              | .data w => if s.drp.headOpen = true then some w else s.drp.train
              | _ => s.drp.train
            queue := match c with
              | .data w => if s.drp.headOpen = true then
                  s.drp.queue.filter (fun q => !frameBefore q.tag w) else s.drp.queue
              | _ => s.drp.queue
            counts := { s.drp.counts with
              stale := s.drp.counts.stale + (match c with
                | .data w => if s.drp.headOpen = true then
                    BitVec.ofNat 32 (s.drp.queue.countP fun q => frameBefore q.tag w) else 0
                | _ => 0)
              violations := s.drp.counts.violations + (if c = .violation then 1 else 0)
              badHeads := s.drp.counts.badHeads + (match c with
                | .idle | .data _ => 0
                | _ => if s.drp.headOpen = true then 1 else 0) } } })))

/-- A MARK in ON_RING (R140): with transmit enable set and a slice of tag N queued it is withheld, the held
code goes out, the slice is taken and the port is SENDING; else it is repeated; N is none in both cases. A
MARK in LISTENING enters ON_RING once a HEAD has been seen, which clears the note of the HEAD (R139, R146; log
entry 22, DESIGN CHOICE); one in LEAVING is repeated, and the first IDLE after it takes the port to BYPASS
with nothing held (R144). A MARK breaks an open head, which is counted (R134); an IDLE leaves it open. That
a MARK received in LEAVING and still held when the next IDLE comes counts as sent on, since it leaves with
that IDLE, is log entry 21's (DEDUCED). -/
def Obligations.MarksDecideWhatIsSent : Prop :=
  ∀ s : State, s.inReset = false →
    let b : Drp := { s.drp with
      headOpen := false
      counts := { s.drp.counts with
        badHeads := s.drp.counts.badHeads + (if s.drp.headOpen = true then 1 else 0) } }
    (∀ (n : Word) (x : Slice), s.drp.state = .onRing → s.drp.transmit = true → s.drp.train = some n →
      (s.drp.queue.find? fun q => q.tag == n) = some x →
      exec .ringMark s = .next (State.settle { s with
        ringOut := s.ringOut ++ s.drp.holding.toList
        drp := { b with
          holding := none, state := .sending, queue := s.drp.queue.erase x, train := none
          leaveRequested := false, unsent := x.frameCodes, markSent := false
          counts := { b.counts with sent := b.counts.sent + 1 } } })) ∧
    (s.drp.state = .onRing → s.drp.transmit = false ∨ s.drp.train = none ∨
        (∀ n, s.drp.train = some n → ∀ q ∈ s.drp.queue, q.tag ≠ n) →
      exec .ringMark s = .next (State.settle { s with
        ringOut := s.ringOut ++ s.drp.holding.toList
        drp := { b with holding := some .mark, train := none } })) ∧
    (s.drp.state = .listening → s.drp.headSeen = true →
      exec .ringMark s = .next (State.settle (State.raise { s with
        ringOut := s.ringOut ++ s.drp.holding.toList
        drp := { b with holding := some .mark, state := .onRing, train := none, headSeen := false } }
        (.ringState s.drp.settings.id true)))) ∧
    (s.drp.state = .listening → s.drp.headSeen = false →
      exec .ringMark s = .next (State.settle { s with
        ringOut := s.ringOut ++ s.drp.holding.toList, drp := { b with holding := some .mark } })) ∧
    (s.drp.state = .leaving →
      exec .ringMark s = .next (State.settle { s with
        ringOut := s.ringOut ++ s.drp.holding.toList
        drp := { b with holding := some .mark, train := none, leaveMark := true } })) ∧
    (s.drp.state = .leaving → s.drp.leaveMark = true →
      exec .ringIdle s = .next (State.settle (State.raise { s with
        ringOut := s.ringOut ++ s.drp.holding.toList, drp := s.drp.toBypass }
        (.ringState s.drp.settings.id false))))

/-- FRESH_MARK_SENT: the port in SENDING has sent its slice frame and a fresh MARK; the frame is OPEN, four
header words, the command words, the CRC of them all, CLOSE (R141, R180). The next code ends SENDING: it
is passed through in BYPASS where a leave is requested, else it is taken as received in ON_RING (R141). In
a soft-reset ending the port then enters BYPASS (R150). That FRESH_MARK_SENT brings the whole frame at once
is the model's choice (DESIGN CHOICE, log entry 8), so is that it has no effect of its own outside SENDING
or after the MARK (DESIGN CHOICE, log entry 10), that an entry to BYPASS clears the flags of the other states
(DESIGN CHOICE, log entry 22), and that a leave requested in a soft-reset ending adds no notice to it (DESIGN
CHOICE, log entry 38). -/
def Obligations.SendingEndsWithAFreshMark : Prop :=
  (∀ x : Slice, x.frameCodes =
    let ws : List Word := BitVec.ofNat 16 ((if x.held = true then 32768 else 0) + x.settings.id % 8) :: x.tag ::
      BitVec.ofNat 16 x.settings.firstGlobal :: BitVec.ofNat 16 x.settings.actuators :: x.words
    .openSym :: ws.map .data ++ [.data (ws.foldl crcWord 0xFFFF), .closeSym]) ∧
  (∀ d : Drp, d.toBypass = { d with
    state := .bypass, holding := none, train := none, headOpen := false, headSeen := false
    markPassed := false, leaveRequested := false, leaveMark := false, unsent := [], markSent := false
    resetEnding := false }) ∧
  (∀ s : State, s.inReset = false →
    (s.drp.state ≠ .sending ∨ s.drp.markSent = true → exec .freshMarkSent s = .next s.settle) ∧
    (s.drp.state = .sending → s.drp.markSent = false →
      exec .freshMarkSent s = .next (State.settle { s with
        ringOut := s.ringOut ++ s.drp.unsent ++ [.mark]
        drp := if s.drp.resetEnding = true then s.drp.toBypass
          else { s.drp with unsent := [], markSent := true } })) ∧
    (∀ (i : Instr) (c : Code), ringCodeOf i = some c → s.drp.state = .sending → s.drp.resetEnding = false →
      s.drp.markSent = true →
      (s.drp.leaveRequested = true → exec i s = .next (State.settle (State.raise { s with
        ringOut := s.ringOut ++ [c], drp := s.drp.toBypass } (.ringState s.drp.settings.id false)))) ∧
      (s.drp.leaveRequested = false →
        exec i s = exec i { s with drp := { s.drp with
          state := .onRing, holding := none, markSent := false } })))

/-- RING_JOIN, RING_LEAVE and RING_TRANSMIT in each ring state (R138, R143, R145). That a RING_TRANSMIT value
of 0 enables and 1 disables is read from R179 (DEDUCED, log entry 15); that a RING_LEAVE in a soft-reset
ending is taken as in any other SENDING is the model's choice (DESIGN CHOICE, log entry 38), so is which flags
leaving a state clears (DESIGN CHOICE, log entry 22). A RING_LEAVE from LISTENING or ON_RING leaves all else
of the port but head seen as it stood; that no MARK received before it counts (`leaveMark`) is read from R144
(DEDUCED, log entry 21). SET_SLICE: the four checks of R135 in order, LENGTH with the lowest present block of
the active bank shorter than ceil(A/8) pages; else the three settings alone are replaced. -/
def Obligations.RingRequestsActByState : Prop :=
  (∀ (s : State) (tag : Word), s.Ready [] →
    exec (.ringJoin tag []) s = .next (State.transmit
      (if s.drp.state = .bypass then
        State.answered { s with drp := { s.drp with state := .joining, markPassed := false } }
          25 tag .accepted []
      else s.answered 25 tag .wrongState []))) ∧
  (∀ (s : State) (tag : Word), s.Ready [] →
    (s.drp.state = .bypass ∨ s.drp.state = .leaving ∨
        (s.drp.state = .sending ∧ s.drp.leaveRequested = true) →
      exec (.ringLeave tag []) s = .next (s.answered 26 tag .wrongState []).transmit) ∧
    (s.drp.state = .sending → s.drp.leaveRequested = false →
      exec (.ringLeave tag []) s = .next (State.transmit (State.answered
        { s with drp := { s.drp with leaveRequested := true } } 26 tag .accepted []))) ∧
    (s.drp.state = .listening ∨ s.drp.state = .onRing →
      exec (.ringLeave tag []) s = .next (State.transmit (State.answered
        { s with drp := { s.drp with state := .leaving, leaveMark := false, headSeen := false } }
        26 tag .accepted []))) ∧
    (s.drp.state = .joining →
      exec (.ringLeave tag []) s = .next (State.transmit (State.answered
        (State.raise { s with drp := { s.drp with
          state := .bypass, holding := none, train := none, headOpen := false, headSeen := false
          markPassed := false, leaveRequested := false, leaveMark := false, unsent := [], markSent := false
          resetEnding := false } } (.ringState s.drp.settings.id false)) 26 tag .accepted [])))) ∧
  (∀ (s : State) (tag v : Word), s.Ready [v] →
    exec (.ringTransmit tag [v]) s = .next (State.transmit
      (if 1 < v.toNat then s.answered 27 tag .invalid []
      else State.answered { s with drp := { s.drp with transmit := decide (v = 0) } } 27 tag .ok []))) ∧
  (∀ (s : State) (tag id a first : Word), s.Ready [id, a, first] →
    let short := (List.range 64).find? fun g =>
      (s.entry s.mmc.active g).present &&
        decide ((s.entry s.mmc.active g).pages < (a.toNat + 7) / 8)
    exec (.setSlice tag [id, a, first]) s = .next (State.transmit
      (if s.running = true ∨ s.tmr.enabled = true then s.answered 10 tag .wrongState []
      else if 7 < id.toNat ∨ a.toNat < 1 ∨ 1024 < a.toNat ∨ 65536 < first.toNat + a.toNat then
        s.answered 10 tag .invalid []
      else match short with
        | some g => s.answered 10 tag .length [BitVec.ofNat 16 g]
        | none => State.answered { s with drp := { s.drp with
            settings := ⟨id.toNat, a.toNat, first.toNat⟩ } } 10 tag .ok [])))

/-- Every step keeps the outbound slice queue to two slices, each tag before the next (R147). -/
def Obligations.SliceQueueAscends : Prop :=
  ∀ s t : State, s.drp.QueueAscends → step s = .next t → t.drp.QueueAscends

/-! ### Telemetry -/

/-- SET_TELEMETRY: the four checks of R151 in order; else the configuration is replaced and the store emptied,
a record in writing cut (R160). TELEMETRY_ENABLE: the checks of R154; an ENABLE fixes the geometry of R153,
cuts a record in writing and starts the store afresh, a DISABLE clears enabled alone. That 0 is ENABLE and 1
DISABLE is read from R179 (DEDUCED, log entry 15), and that the capacity takes two words in the reply is log
entry 16's (DEDUCED). -/
def Obligations.TelemetryStoreIsSetUp : Prop :=
  (∀ (s : State) (tag b1 b0 l1 l0 sections n mode threshold : Word),
    s.Ready [b1, b0, l1, l0, sections, n, mode, threshold] →
    let base := 65536 * b1.toNat + b0.toNat
    let len := 65536 * l1.toNat + l0.toNat
    let c : TelemetryConfig := ⟨base, len, ⟨sections.getLsbD 0, sections.getLsbD 1, sections.getLsbD 2⟩, n.toNat,
      if mode = 0 then .ring else .queue, threshold.toNat⟩
    let refuse (r : Result) : State := (s.answered 28 tag r []).transmit
    exec (.setTelemetry tag [b1, b0, l1, l0, sections, n, mode, threshold]) s = .next
      (if s.tmr.enabled = true then refuse .wrongState
      else if 131071 < base ∨ len < 1 ∨ 131072 < len ∨ 7 < sections.toNat ∨ n.toNat < 1 ∨ 1024 < n.toNat ∨
          1 < mode.toNat then refuse .invalid
      else if 131072 < base + len then refuse .length
      else if s.mmc.bank0.overlaps base len none = true ∨ s.mmc.bank1.overlaps base len none = true then
        refuse .overlap
      else (State.answered { s.cutRecord with tmr := { s.cutRecord.tmr with
        config := some c, unread := [], geometry := none, nextSlot := 0 } } 28 tag .ok []).transmit)) ∧
  (∀ (s : State) (tag v : Word), s.Ready [v] →
    (1 < v.toNat → exec (.telemetryEnable tag [v]) s = .next (s.answered 29 tag .invalid []).transmit) ∧
    (v = 1 → exec (.telemetryEnable tag [v]) s = .next (State.transmit (State.answered
      { s with tmr := { s.tmr with enabled := false } } 29 tag .ok []))) ∧
    (v = 0 → s.tmr.config = none ∨ s.tmr.enabled = true →
      exec (.telemetryEnable tag [v]) s = .next (s.answered 29 tag .wrongState []).transmit) ∧
    (∀ c, v = 0 → s.tmr.config = some c → s.tmr.enabled = false →
      let counts := (List.finRange 8).map fun l =>
        if (s.link l).entry.enabled = true then (s.link l).entry.blocks else 0
      let len := 32 + (if c.sections.slopes = true then 256 * counts.sum else 0) +
        (if c.sections.residuals = true then 2 * s.drp.settings.actuators else 0) +
        (if c.sections.commands = true then s.drp.settings.actuators else 0)
      let size := (len + 255) / 256
      let capacity := c.pages * 8 / size
      exec (.telemetryEnable tag [v]) s = .next (State.transmit
        (if capacity < 2 then s.answered 29 tag .length []
        else State.answered { s.cutRecord with tmr := { s.tmr with
            geometry := some ⟨size, capacity, s.drp.settings.actuators, counts⟩, enabled := true, frozen := false
            decimated := 0, sequence := 0, unread := [], nextSlot := 0, writing := none, counts := .zero } }
          29 tag .ok [BitVec.ofNat 16 size, BitVec.ofNat 16 (capacity / 65536), BitVec.ofNat 16 capacity])))) ∧
  (∀ (b : Bank) (base len : Nat), b.overlaps base len none = true ↔
    ∃ g, g < 64 ∧ (entryAt b.directory g .absent).present = true ∧
      (entryAt b.directory g .absent).base < base + len ∧
      base < (entryAt b.directory g .absent).base + (entryAt b.directory g .absent).pages)

/-- While telemetry is enabled every COMPLETED and SKIPPED outcome raises the decimation counter, and at N a
record is due and takes its place in the sequence (R156; that the sequence wraps to 0 is log entry 36's,
DESIGN CHOICE). The table of R157: late while one is in writing; into the next slot while the list has room;
full in QUEUE mode or with the oldest record under read; else over the oldest. A record that starts holds its
buffer when it has slopes to copy, its header as R182 lays down and the rest as R158 does, and presents the
first burst of its slot (R159). Each burst holds the next 256 words of header and selected sections, in order,
zeros for a section not carried and after the record's end; of a sensor's blocks those accepted (R152, R159).
The report on a SKIPPED cycle names bank and attach timestamp only where the engine is attached (R158). -/
def Obligations.DueRecordsAreWritten : Prop :=
  (∀ (s : State) (x : BufferId) (r : CycleReport), s.recordOutcome x r =
    match s.tmr.enabled, s.tmr.config with
    | true, some c =>
      if s.tmr.decimated + 1 < c.decimation then
        { s with tmr := { s.tmr with decimated := s.tmr.decimated + 1 } }
      else
        State.recordDue { s with tmr := { s.tmr with decimated := 0, sequence := s.tmr.sequence + 1 } } x r
    | _, _ => s) ∧
  (∀ (s : State) (x : BufferId) (r : CycleReport) (g : Geometry) (c : TelemetryConfig),
    s.tmr.geometry = some g → s.tmr.config = some c →
    let n := s.tmr.counts
    let full : State := { s with tmr := { s.tmr with counts := { n with full := n.full + 1 } } }
    s.recordDue x r =
      if s.tmr.writing ≠ none then { s with tmr := { s.tmr with counts := { n with late := n.late + 1 } } }
      else if s.tmr.unread.length < g.capacity then s.startRecord x r
      else
        match c.mode, s.tmr.unread with
        | .queue, _ | .ring, [] => full
        | .ring, oldest :: rest =>
          if s.tmr.underRead = some oldest.slot then full
          else State.startRecord { s with tmr := { s.tmr with
            unread := rest, nextSlot := oldest.slot, counts := { n with overwritten := n.overwritten + 1 } } }
            x r) ∧
  (∀ (s : State) (x : BufferId) (r : CycleReport) (g : Geometry) (c : TelemetryConfig),
    s.tmr.geometry = some g → s.tmr.config = some c →
    let d := s.desc x
    let present : Sections :=
      ⟨c.sections.slopes && d.state != .opened, c.sections.residuals && r.outcome == .completed,
        c.sections.commands && r.commands.isSome⟩
    let w : Writing :=
      { slot := s.tmr.nextSlot, tag := d.tag, header := headerWords s.tmr.sequence c.sections present d r
        sections := present, buffer := x, holds := present.slopes && decide (0 < g.blocks.sum)
        residuals := r.residuals, commands := r.commands.getD [], next := 0 }
    s.startRecord x r = State.presentRecord { s with tmr := { s.tmr with writing := some w } }) ∧
  (∀ (n : Count) (layout present : Sections) (d : Descriptor) (r : CycleReport),
    let one (n : Nat) : Word := BitVec.ofNat 16 n
    let two (p : BitVec 32) : List Word := [p.extractLsb' 16 16, p.extractLsb' 0 16]
    let done := r.outcome == .completed
    let opened := d.state == .opened
    let mask (x : Sections) : Nat :=
      (if x.slopes = true then 1 else 0) + (if x.residuals = true then 2 else 0) + if x.commands = true then 4 else 0
    let set (f : SensorStatus → Bool) : Nat := (((List.finRange 8).filter fun l => f d.sensors[l]).map (2 ^ ·.val)).sum
    headerWords n layout present d r = two n ++
      [d.tag, one r.outcome.number, one ((r.skip.map SkipCause.number).getD 0),
        one ((d.cause.map ClosureCause.number).getD 0), one ((r.loop.map LoopState.number).getD 0),
        one ((r.bank.map BankId.number).getD 0)] ++
      two d.openedAt ++ two (if opened = true then 0 else d.closedAt) ++ two (r.attachedAt.getD 0) ++
      two (r.endedAt.getD 0) ++
      [one (set (·.complete)), one (set fun x => x.complete || x.endSeen), one d.markers,
        one (if done = true then r.saturated else 0), one (if done = true then r.adjustments else 0),
        one ((if d.cause = none then 0 else 1) + (if r.loop = none then 0 else 2) +
          (if r.bank = none then 0 else 4) + (if opened = true then 0 else 8) +
          (if r.attachedAt = none then 0 else 16) + (if r.endedAt = none then 0 else 32) +
          if done = true then 64 else 0),
        one (mask layout), one (mask present)] ++ List.replicate 8 0) ∧
  (∀ (s : State) (w : Writing) (g : Geometry) (c : TelemetryConfig), s.tmr.writing = some w →
    s.tmr.geometry = some g → s.tmr.config = some c →
    let slopes := ((List.finRange 8).map fun l => ((List.range (g.blocks.getD l.val 0)).map fun b =>
      if ((s.desc w.buffer).sensors[l]).accepted.getLsbD b = true then
        slotSlopes (s.buffer w.buffer).slots ((s.link l).entry.base + b)
      else List.replicate 256 0).flatten).flatten
    let part (selected carried : Bool) (len : Nat) (ws : List Word) : List Word :=
      if carried = true then ws else List.replicate (if selected = true then len else 0) 0
    let words := w.header ++ part c.sections.slopes w.sections.slopes (256 * g.blocks.sum) slopes ++
      part c.sections.residuals w.sections.residuals (2 * g.actuators)
        ((w.residuals.map fun p =>
          [(BitVec.ofInt 32 p).extractLsb' 16 16, (BitVec.ofInt 32 p).extractLsb' 0 16]).flatten) ++
      part c.sections.commands w.sections.commands g.actuators w.commands
    let b : Burst := ⟨.telemetry, 8 * c.base + w.slot * g.slotSize + w.next,
      some ((words.drop (256 * w.next) ++ List.replicate 256 0).take 256), .zero, 0, w.next, false⟩
    s.presentRecord =
      if w.next < g.slotSize then
        { s with
          mmc := { s.mmc with recorderWaits := some b }
          tmr := { s.tmr with writing := some { w with next := w.next + 1 } } }
      else s) ∧
  (∀ (s : State) (x : BufferId) (cause : SkipCause),
    let attached := (s.desc x).relation = .attached
    s.skipReport x cause = ⟨.skipped, some cause, none, if attached then s.rce.bank else none,
      if attached then s.rce.attachedAt else none, none, 0, 0, [], none⟩)

/-- The end of a burst of the record in writing (R159): the last burst that holds slope words ends the hold on
the buffer, which may return to FREE; the last burst of the slot makes the record join the tail of the unread
list, the written count rises and no record is in writing; TELEMETRY_LEVEL is raised when the unread count
becomes a threshold that is not 0 (R161). A cut withdraws the waiting burst, leaves a granted one to end
unheeded, ends the hold, and counts (R160). At a trip an enabled recorder in RING mode is disabled and
frozen, and TELEMETRY_FROZEN gives cause, frame and unread count; in QUEUE mode nothing changes (R162). -/
def Obligations.RecordsJoinOrAreCut : Prop :=
  (∀ (s : State) (w : Writing) (g : Geometry) (c : TelemetryConfig) (row : Nat), s.tmr.writing = some w →
    s.tmr.geometry = some g → s.tmr.config = some c →
    let lastSlope := (32 + (if c.sections.slopes = true then 256 * g.blocks.sum else 0) - 1) / 256
    let t : State := if w.holds = true ∧ row = lastSlope then
        State.freeIfReleased { s with tmr := { s.tmr with writing := some { w with holds := false } } } w.buffer
      else s
    let u : State := { t with tmr := { t.tmr with
      writing := none
      unread := s.tmr.unread ++ [⟨w.slot, w.tag, w.sections⟩]
      nextSlot := if w.slot + 1 < g.capacity then w.slot + 1 else 0
      counts := { s.tmr.counts with written := s.tmr.counts.written + 1 } } }
    s.recordBurstEnded row =
      if row + 1 = g.slotSize then
        if c.threshold ≠ 0 ∧ s.tmr.unread.length + 1 = c.threshold then
          u.raise (.telemetryLevel c.threshold g.capacity)
        else u
      else t) ∧
  (∀ (s : State) (w : Writing), s.tmr.writing = some w → s.cutRecord = State.freeIfReleased { s with
    mmc := { s.mmc with
      recorderWaits := none
      port := s.mmc.port.map fun p => if p.who = .telemetry then { p with dropped := true } else p }
    tmr := { s.tmr with writing := none, counts := { s.tmr.counts with cut := s.tmr.counts.cut + 1 } } }
      w.buffer) ∧
  (∀ s : State, s.tmr.writing = none → s.cutRecord = s) ∧
  (∀ (s : State) (cause : TripCause) (frame : Word),
    let t := State.raise { s with tmr := { s.tmr with enabled := false, frozen := true } }
      (.telemetryFrozen cause frame s.tmr.unread.length)
    (∀ c, s.tmr.enabled = true → s.tmr.config = some c → c.mode = .ring → s.freeze cause frame = t) ∧
    (s.tmr.enabled = false ∨ s.tmr.config = none ∨ (∃ c, s.tmr.config = some c ∧ c.mode = .queue) →
      s.freeze cause frame = s))

/-- Every step keeps the unread list in a run of consecutive slots, the record in writing in the next one, and
both together within the capacity (R155). -/
def Obligations.UnreadRecordsRunThroughTheSlots : Prop :=
  ∀ s t : State, s.tmr.SlotsRun → step s = .next t → t.tmr.SlotsRun

/-- READ_TELEMETRY: the four checks of R163 in order; a request that passes makes the record under read and
stays in execution with the bursts of the record's slot that hold the words asked for, in ascending order.
RELEASE_TELEMETRY removes the oldest records, as many as there are at most, and replies with the numbers
removed and left (R164). That check 3 goes by the sections kept for the record, which its header words 22 and
23 carry, and not by a read of those words is the model's choice (DESIGN CHOICE, log entry 26); that the
unread count takes two words in the reply is log entry 16's (DEDUCED). -/
def Obligations.TelemetryRecordsAreReadAndReleased : Prop :=
  (∀ (s : State) (tag o1 o0 sec offset n : Word), s.Ready [o1, o0, sec, offset, n] →
    let payload := [o1, o0, sec, offset, n]
    let refuse (r : Result) : Host.Outcome State Fault Refusal := .next (s.answered 30 tag r []).transmit
    (3 < sec.toNat ∨ n.toNat < 1 ∨ 2048 < n.toNat → exec (.readTelemetry tag payload) s = refuse .invalid) ∧
    (sec.toNat ≤ 3 → 1 ≤ n.toNat → n.toNat ≤ 2048 →
      (s.tmr.unread.length ≤ 65536 * o1.toNat + o0.toNat →
        exec (.readTelemetry tag payload) s = refuse .empty) ∧
      (∀ r c g, s.tmr.unread[65536 * o1.toNat + o0.toNat]? = some r → s.tmr.config = some c →
        s.tmr.geometry = some g →
        let slopes := if c.sections.slopes = true then 256 * g.blocks.sum else 0
        let residuals := if c.sections.residuals = true then 2 * g.actuators else 0
        let place : Option (Nat × Nat) :=
          if sec = 0 then some (0, 32)
          else if sec = 1 then (if r.sections.slopes = true then some (32, slopes) else none)
          else if sec = 2 then (if r.sections.residuals = true then some (32 + slopes, residuals) else none)
          else if r.sections.commands = true then
            some (32 + slopes + residuals, if c.sections.commands = true then g.actuators else 0)
          else none
        exec (.readTelemetry tag payload) s =
          match place with
          | none => refuse .invalid
          | some (start, len) =>
            if len < offset.toNat + n.toNat then refuse .invalid
            else
              let from' := start + offset.toNat
              let bursts : List Burst :=
                (List.range ((from' + n.toNat - 1) / 256 + 1 - from' / 256)).map fun i =>
                  { who := .hostTelemetry, place := 8 * c.base + r.slot * g.slotSize + from' / 256 + i
                    write := none, bank := .zero, block := 0, row := from' / 256 + i, dropped := false }
              .next (State.transmit { s.started 30 tag payload
                  (.transfer bursts.tail bursts.length [] (.readTelemetry (from' % 256) n.toNat)) with
                tmr := { s.tmr with underRead := some r.slot }
                mmc := { s.mmc with hostWaits := bursts.head? } })))) ∧
  (∀ (s : State) (tag n1 n0 : Word), s.Ready [n1, n0] →
    let removed := min (65536 * n1.toNat + n0.toNat) s.tmr.unread.length
    let left := s.tmr.unread.length - removed
    exec (.releaseTelemetry tag [n1, n0]) s = .next (State.transmit (State.answered
      { s with tmr := { s.tmr with unread := s.tmr.unread.drop removed } } 31 tag .ok
      [BitVec.ofNat 16 (removed / 65536), BitVec.ofNat 16 removed, BitVec.ofNat 16 (left / 65536),
        BitVec.ofNat 16 left])))

/-! ### The control link -/

/-- What IDLE, OPEN, a data word and a loss of line order do in each state of the control-link receiver (R167):
IDLE in HUNT brings SYNC; OPEN begins a message, cutting one short that was being received; a word is stored
up to the 2,053rd and taken into count and CRC, or is stray in SYNC; ABORT and a code violation go to HUNT
without a notice. That CONTROL_STRAY_CODE of a word is CONTROL_DATA_WORD in every state is read from the rows'
rules (DEDUCED, log entry 11). -/
def Obligations.ControlReceiverTakesEachCode : Prop :=
  (∀ s : State, s.inReset = false →
    let c := s.clp
    exec .controlIdleInHunt s = .next (State.settle
      (if c.receiver = .hunt then { s with clp := { c with receiver := .sync } } else s)) ∧
    exec .controlOpen s = .next (State.settle
      (if c.receiver = .sync then
        { s with clp := { c with receiver := .receiving, line := .start, buffer := [] } }
      else if c.receiver = .receiving then
        { s with clp := { c with line := .start, buffer := [], receiveErrors := c.receiveErrors + 1 } }
      else s)) ∧
    (∀ w, exec (.controlDataWord w) s = exec (.controlStrayCode (.word w)) s ∧
      exec (.controlDataWord w) s = .next (State.settle
        (if c.receiver = .receiving then
          { s with clp := { c with
            line := ⟨c.line.count + 1, crcWord c.line.crc w, c.line.crc, w⟩
            buffer := if c.buffer.length < 2053 then c.buffer ++ [w] else c.buffer } }
        else if c.receiver = .sync then
          { s with clp := { c with receiveErrors := c.receiveErrors + 1 } }
        else s))) ∧
    (∀ k, exec (.controlLossOfLineOrder k) s = .next (State.settle
      (if c.receiver = .sync ∨ c.receiver = .receiving then
        { s with clp := { c with receiver := .hunt, buffer := [], syncLosses := c.syncLosses + 1 } }
      else s))))

/-- CLOSE on the control link (R167, R168): stray in SYNC; in RECEIVING the message is discarded with a
receive error unless its word count is at least 5, its CRC passes, its word count is the length field plus 5
and at most 2,053, and its kind is REQUEST; a good request arrives, just as the row of its code brings it. A
request that arrives joins a request queue of fewer than 8, else is answered QUEUE_FULL where fewer than 16
replies wait, else is dropped (R168). The head of the queue is taken into execution as soon as none is in
execution, reset in hand is clear and fewer than 16 replies wait: it leaves the queue, its pending entry joins
the reply queue, and its block carries it out; then the next (R169, R178). At completion the pending entry
becomes the reply (R169, R170). That a request row is a whole good request's arrival, an UNKNOWN_REQUEST being
one whose code names no kind, is the model's choice (DESIGN CHOICE, log entry 4); that CONTROL_STRAY_CODE of a
CLOSE is CONTROL_MESSAGE_CLOSE in every state is read from the rows' rules (DEDUCED, log entry 11). -/
def Obligations.GoodRequestsAreQueued : Prop :=
  (∀ s : State, s.inReset = false →
    let c := s.clp
    let ws := c.buffer
    let good := 5 ≤ c.line.count ∧ c.line.prior = c.line.latest ∧
      c.line.count = (packetWord ws 3).toNat + 5 ∧ c.line.count ≤ 2053 ∧ (packetWord ws 0).toNat < 16384
    exec .controlMessageClose s = exec (.controlStrayCode .closeSym) s ∧
    (c.receiver = .hunt ∨ c.receiver = .disabled → exec .controlMessageClose s = .next s.settle) ∧
    (c.receiver = .sync → exec .controlMessageClose s = .next (State.settle
      { s with clp := { c with receiveErrors := c.receiveErrors + 1 } })) ∧
    (c.receiver = .receiving → ¬good → exec .controlMessageClose s = .next (State.settle { s with clp :=
      { c with receiver := .sync, buffer := [], receiveErrors := c.receiveErrors + 1 } })) ∧
    (∀ i : Instr, c.receiver = .receiving → good → i.codeUnknown = true →
      i.request? = some ((packetWord ws 0).toNat % 256, packetWord ws 1,
        (ws.drop 4).take (packetWord ws 3).toNat) →
      exec .controlMessageClose s = exec i { s with clp := { c with receiver := .sync, buffer := [] } })) ∧
  (∀ (s : State) (i : Instr) (code : Nat) (tag : Word) (payload : List Word), s.inReset = false →
    i.codeUnknown = true → i.request? = some (code, tag, payload) →
    exec i s = .next (State.settle
      (if 2048 < payload.length then s
      else if s.clp.requests.length < 8 then
        { s with clp := { s.clp with requests := s.clp.requests ++ [⟨code, tag, payload⟩] } }
      else if s.clp.replies.length < 16 then
        { s with clp := { s.clp with
          queueFull := s.clp.queueFull + 1
          replies := s.clp.replies ++ [.ready ⟨code, tag, .queueFull, []⟩] } }
      else { s with clp := { s.clp with dropped := s.clp.dropped + 1 } }))) ∧
  (∀ (s : State) (r : Request) (rest : List Request), s.clp.requests = r :: rest → s.clp.inExec = none →
    s.clp.resetInHand = false → s.clp.replies.length < 16 →
    s.settle = (State.carryOut r.code r.payload { s with clp := { s.clp with
      requests := rest, inExec := some ⟨r, .now⟩, replies := s.clp.replies ++ [.pending] } }).settle) ∧
  (∀ (code : Nat) (payload : List Word) (s : State),
    (State.carryOut code payload s).clp.requests = s.clp.requests) ∧
  (∀ (s : State) (r : Request) (j : Job) (result : Result) (ws : List Word), s.clp.inExec = some ⟨r, j⟩ →
    s.complete result ws = { s with clp := { s.clp with
      inExec := none
      replies := s.clp.replies.map fun e =>
        if e = .pending then .ready ⟨r.code, r.tag, result, ws⟩ else e } })

/-- The transmit arbiter (R173): a busy transmitter goes on; a free one takes the complete reply at the head of
the reply queue, else the head of the notice list, else sends IDLE. What follows every event (`settle`): the
waiting requests that may start are carried out, the transmit arbiter acts, and a request that waited for the
reply queue's room is carried out; where none waits or may start, the transmit arbiter alone acts (R169; that
requests come before the transmitter at one moment is log entry 17's, DESIGN CHOICE). MESSAGE_SENT is the end
of the message: its codes have gone out, and the arbiter chooses again, also while reset in hand is set for
any message but the RESET reply, whose end is R177's. That the codes go out whole at that moment is the
model's choice (DESIGN CHOICE, log entry 8), so is that MESSAGE_SENT with nothing being sent has no effect of
its own (DESIGN CHOICE, log entry 10). The words of a reply and of a notice: the header of R166 and R180, then the
payload, for each notice kind in the order of the rule that gives it (R24, R66, R80, R81, R104, R126, R128, R146,
R161, R162), with result codes, notice kinds and requesters numbered in the order of their tables (R179). That a
LINK_STATE says SYNC 0 and HUNT 1 with a cause for HUNT alone, that events go by number and a tag follows only
where the rule gives one, that causes have their own table's number, that counts of records take two words, and
that a HOST_TELEMETRY MEMORY_ERROR ends after the burst's place is log entry 16's (DEDUCED). -/
def Obligations.ArbiterPrefersReplies : Prop :=
  (∀ s : State,
    (s.clp.sending ≠ none → s.transmit = s) ∧
    (s.clp.sending = none →
      (∀ r rest, s.clp.replies = .ready r :: rest →
        s.transmit = { s with clp := { s.clp with sending := some (.reply r), replies := rest } }) ∧
      (∀ n ns, s.clp.replies = [] ∨ s.clp.replies.head? = some .pending → s.clp.notices = n :: ns →
        s.transmit = { s with clp := { s.clp with sending := some (.notice n), notices := ns } }) ∧
      (s.clp.replies = [] ∨ s.clp.replies.head? = some .pending → s.clp.notices = [] → s.transmit = s))) ∧
  (∀ s : State,
    (s.clp.requests = [] ∨ s.clp.inExec ≠ none ∨ s.clp.resetInHand = true → s.settle = s.transmit) ∧
    (16 ≤ s.clp.replies.length → s.clp.sending ≠ none → s.settle = s) ∧
    (16 ≤ s.clp.replies.length → s.clp.inExec = none → s.clp.sending = none →
      ∀ r rest, s.clp.replies = .ready r :: rest →
      s.settle = State.serveAll { s with clp := { s.clp with sending := some (.reply r), replies := rest } }) ∧
    s.settle = s.serveAll.transmit.serveAll ∧
    (s.clp.requests = [] ∨ s.clp.inExec ≠ none ∨ s.clp.resetInHand = true ∨ 16 ≤ s.clp.replies.length →
      s.serveAll = s)) ∧
  (∀ s : State, s.inReset = false →
    (s.clp.sending = none → exec .messageSent s = .next s.settle) ∧
    (∀ m, s.clp.sending = some m →
      (s.clp.resetInHand = false ∨ ∀ tag ws, m ≠ .reply ⟨5, tag, .ok, ws⟩) →
      exec .messageSent s = .next (State.settle { s with
        controlOut := s.controlOut ++ .openSym :: m.words.map .data ++
          [.data (m.words.foldl crcWord 0xFFFF), .closeSym]
        clp := { s.clp with sending := none } }))) ∧
  (let one (n : Nat) : Word := BitVec.ofNat 16 n
   let two (n : Nat) : List Word := [BitVec.ofNat 16 (n / 65536), BitVec.ofNat 16 n]
   (∀ r : Reply, (Sending.reply r).words =
      [one (16384 + r.code % 256), r.tag, one r.result.number, one r.payload.length] ++ r.payload) ∧
   (∀ n : Notice, (Sending.notice n).words =
      [one (32768 + n.payload.kind.number), 0, n.count, one n.payload.words.length] ++ n.payload.words) ∧
   (∀ p : NoticePayload, p.kind = match p with
      | .cycleSkipped .. => .cycleSkipped
      | .loopTripped .. => .loopTripped
      | .swapDone .. => .swapDone
      | .paramsApplied .. => .paramsApplied
      | .memoryError .. => .memoryError
      | .linkState .. => .linkState
      | .ringState .. => .ringState
      | .telemetryLevel .. => .telemetryLevel
      | .telemetryFrozen .. => .telemetryFrozen) ∧
   (∀ p : NoticePayload, p.words = match p with
      | .cycleSkipped tag cause skips => [tag, if cause = .missing then 1 else 2, skips]
      | .loopTripped cause frame value limit =>
        [if cause = .skips then 1 else 2, frame, one value, one limit]
      | .swapDone active (some tag) => [if active = .zero then 0 else 1, 0, tag]
      | .swapDone active none => [if active = .zero then 0 else 1, 1]
      | .paramsApplied (.attach tag) => [0, tag]
      | .paramsApplied (.passEnd tag) => [1, tag]
      | .paramsApplied .stop => [2]
      | .memoryError who place bank block row =>
        [one who.number] ++ two (place / 8) ++ [one (place % 8)] ++
          if who = .hostTelemetry then [] else [if bank = .zero then 0 else 1, one block, one row]
      | .linkState l none => [one l.val, 0]
      | .linkState l (some cause) => [one l.val, 1, if cause = .abort then 0 else 1]
      | .ringState id joined => if joined = true then [one id, 3, 0] else [one id, 0, 1]
      | .telemetryLevel unread capacity => two unread ++ two capacity
      | .telemetryFrozen cause frame unread => [if cause = .skips then 1 else 2, frame] ++ two unread) ∧
   [Result.ok, .accepted, .queueFull, .badRequest, .invalid, .wrongState, .writeProtected, .pending, .notPresent,
      .length, .overlap, .memoryError, .empty].map Result.number = List.range 13 ∧
   [NoticeKind.cycleSkipped, .loopTripped, .swapDone, .paramsApplied, .memoryError, .linkState, .ringState,
      .telemetryLevel, .telemetryFrozen].map NoticeKind.number = List.range 9 ∧
   [Requester.engine, .hostMatrix, .hostTelemetry].map Requester.number = [0, 1, 2])

/-- SET_NOTICES (R172): a set that names a tenth kind is INVALID and changes nothing; else the mask is
replaced and the entries of kinds outside it leave the list, the others in order, in every loop state. A
kind that is masked off is not raised; one in the mask with no entry joins the tail with a count of 1; one
with an entry replaces the entry's payload in its place, and its count rises, stopping at 65,535 (R171). All
nine kinds are in the mask after a hard reset, and a soft one keeps it. -/
def Obligations.SetNoticesReplacesTheMask : Prop :=
  (∀ (s : State) (tag m : Word), s.Ready [m] →
    exec (.setNotices tag [m]) s = .next (State.transmit
      (if 512 ≤ m.toNat then s.answered 4 tag .invalid []
      else State.answered { s with clp := { s.clp with
        mask := m.setWidth 9
        notices := s.clp.notices.filter fun n => m.getLsbD n.payload.kind.number } } 4 tag .ok []))) ∧
  (∀ (s : State) (p : NoticePayload), s.clp.mask.getLsbD p.kind.number = false → s.raise p = s) ∧
  (∀ (s : State) (p : NoticePayload), s.clp.mask.getLsbD p.kind.number = true →
    (∀ n ∈ s.clp.notices, n.payload.kind ≠ p.kind) →
    s.raise p = { s with clp := { s.clp with notices := s.clp.notices ++ [⟨p, 1⟩] } }) ∧
  (∀ (s : State) (k : NoticeKind), s.hardResetAll.clp.mask.getLsbD k.number = true ∧
    s.softResetAll.clp.mask = s.clp.mask) ∧
  (∀ (s : State) (p : NoticePayload) (before after : List Notice) (n : Notice),
    s.clp.mask.getLsbD p.kind.number = true → s.clp.notices = before ++ n :: after →
    (∀ m ∈ before, m.payload.kind ≠ p.kind) → n.payload.kind = p.kind →
    s.raise p = { s with clp := { s.clp with notices :=
      before ++ ⟨p, if n.count = 65535 then 65535 else n.count + 1⟩ :: after } })

/-- A request whose payload has the wrong length is answered BAD_REQUEST at once and reaches no block: for
every kind with fixed fields alone, whose words are R181's; for the kinds whose length a count gives, where
the fixed fields are not all there (R169), for WRITE_ACTUATORS, WRITE_PAIRS and PRESET_COMMANDS where the
count and the words that follow disagree, before every other check, and for WRITE_MATRIX with more than 1,024
coefficients, or with not 256 for each row named once the bank, entry and range checks pass (R75). So is a
code that names no kind (R169). -/
def Obligations.WrongLengthsReachNoBlock : Prop :=
  (∀ (s : State) (i : Instr) (code n : Nat) (tag : Word) (payload : List Word),
    i.wellFormed = true → i.request? = some (code, tag, payload) → fixedWords code = some n → payload.length ≠ n →
    s.Ready payload → exec i s = .next (s.answered code tag .badRequest []).transmit) ∧
  (∀ (s : State) (code : Nat) (tag : Word) (payload : List Word), 32 ≤ code → code < 256 →
    s.Ready payload →
    exec (.unknownRequest code tag payload) s = .next (s.answered code tag .badRequest []).transmit) ∧
  (∀ (s : State) (tag : Word) (payload : List Word), s.Ready payload →
    let bad (code : Nat) : Host.Outcome State Fault Refusal :=
      .next (s.answered code tag .badRequest []).transmit
    let named (i : Nat) : Nat := (payload.getD i 0).toNat
    (payload.length < 4 ∨ 1028 < payload.length → exec (.writeMatrix tag payload) s = bad 15) ∧
    (payload.length < 2 ∨ payload.length ≠ 2 + 6 * named 1 → exec (.writeActuators tag payload) s = bad 19) ∧
    (payload.length < 3 ∨ payload.length ≠ 3 + 3 * named 1 → exec (.writePairs tag payload) s = bad 20) ∧
    (payload.length < 2 ∨ payload.length ≠ 2 + named 1 → exec (.presetCommands tag payload) s = bad 23)) ∧
  (∀ (s : State) (tag bank block first count : Word) (coefficients : List Word),
    s.Ready (bank :: block :: first :: count :: coefficients) → coefficients.length ≠ 256 * count.toNat →
    let k : BankId := if bank = 0 then .zero else .one
    bank.toNat ≤ 1 → block.toNat ≤ 63 → first.toNat ≤ 1023 → 1 ≤ count.toNat → count.toNat ≤ 4 →
    k ≠ s.mmc.active → s.mmc.swap ≠ some k → (s.entry k block.toNat).present = true →
    (first.toNat + count.toNat) * 512 ≤ (s.entry k block.toNat).pages * 4096 →
    exec (.writeMatrix tag (bank :: block :: first :: count :: coefficients)) s =
      .next (s.answered 15 tag .badRequest []).transmit)

/-- Every step keeps the control link's queues within their sizes: 8 requests, 16 replies with one pending at
most, each notice kind once and in the mask, 2,053 words. -/
def Obligations.ControlQueuesStayBounded : Prop :=
  ∀ s t : State, s.clp.Bounded → step s = .next t → t.clp.Bounded

/-! ### Resets and outcomes -/

/-- HARD_RESET brings every block to its hard-reset values and holds it there; what had gone out on the lanes
and the commands that wait stand, and of a slice frame or message cut short some first codes have gone
(R62, R173; how many is a free value, log entry 8; what stands is log entry 29's, DESIGN CHOICE). Under it
every command but HARD_RESET and HARD_RESET_END changes nothing (log entry 18, DEDUCED), but for a ring code,
which the port in BYPASS passes through (R150). HARD_RESET_END sends the one ABORT (R173), and from a first
state that leads to the state after reset; outside a hard reset it has no effect (DESIGN CHOICE, log entry
10). -/
def Obligations.HardResetRestartsThePart : Prop :=
  (∀ s : State, ∃ (n m k : Nat), exec .hardReset s = .next { State.reset with
    pending := s.pending
    inReset := true
    ringOut := s.ringOut ++ s.drp.unsent.take n
    controlOut := s.controlOut ++ (match s.clp.sending with | some x => x.codes.take m | none => [])
    drawn := k }) ∧
  (∀ s : State, s.inReset = true →
    exec .hardResetEnd s = .next { s with inReset := false, controlOut := s.controlOut ++ [.abort] }) ∧
  (∀ s : State, s.inReset = false → exec .hardResetEnd s = .next s) ∧
  (∀ s : State, ∃ t : State, exec .hardReset { s with pending := [.hardResetEnd] } = .next t ∧
    ∃ u : State, step t = .next u ∧
      { u with ringOut := [], controlOut := [.abort], drawn := 0 } = State.reset) ∧
  (∀ (s : State) (i : Instr), s.inReset = true → i ≠ .hardReset → i ≠ .hardResetEnd → ringCodeOf i = none →
    exec i s = .next s) ∧
  (∀ (s : State) (i : Instr) (c : Code), ringCodeOf i = some c → ∃ t : State, exec .hardReset s = .next t ∧
    exec i t = .next { t with ringOut := t.ringOut ++ [c] })

/-- RESET (R177): its reply is filled at once, reset in hand is set and it stays in execution. The soft reset
takes effect at the CLOSE of that reply, by SOFT_RESET or by MESSAGE_SENT: every block takes its soft-reset
values and keeps what its rule keeps; the control link's queues are empty, its counts 0, its mask, receiver
and message kept, its transmit lane having sent the reply whole (R26, R28, R49, R62, R83, R84, R99, R119,
R133, R150, R165). The ring port sends its held code in a repeating state; in SENDING with the MARK not sent
it has sent some first codes of its frame (a free value, log entry 8), and ends the send with ABORT, unless
CLOSE has gone, and the fresh MARK (R150); where an earlier soft reset is still ending that send, what it left
to go stands and nothing new is sent (DESIGN CHOICE, log entry 39). That the CLOSE is brought by SOFT_RESET or
MESSAGE_SENT alike, and that SOFT_RESET has no effect of its own at any other moment, is read from R173 and
R177 (DEDUCED, log entry 30); so is, from R96 and R99, that an engine whose burst still transfers drains with
the buffer, bank and shift of its cycle, the row sums 0 at once (DEDUCED, log entry 27). -/
def Obligations.SoftResetTakesEffectAtItsReply : Prop :=
  (∀ (s : State) (tag : Word), s.Ready [] →
    exec (.reset tag []) s = .next (State.transmit { s with clp := { s.clp with
      inExec := some ⟨⟨5, tag, []⟩, .reset⟩
      resetInHand := true
      replies := s.clp.replies ++ [.ready ⟨5, tag, .ok, []⟩] } })) ∧
  (∀ s : State, s.inReset = false →
    (s.clp.resetInHand = false ∨ ∀ tag ws, s.clp.sending ≠ some (.reply ⟨5, tag, .ok, ws⟩)) →
    exec .softReset s = .next s.settle) ∧
  (∀ (s : State) (tag : Word), s.inReset = false → s.clp.resetInHand = true →
    s.clp.sending = some (.reply ⟨5, tag, .ok, []⟩) →
    ∃ t : State, exec .softReset s = .next t ∧ exec .messageSent s = .next t ∧
      (∀ l, (t.link l).entry = (s.link l).entry ∧ (t.link l).counts = .zero ∧ (t.link l).queue = [] ∧
        (t.link l).order = [] ∧ (t.link l).current = none ∧ (t.link l).closing = [] ∧
        (t.link l).storing = none ∧ (t.link l).overflow = false ∧
        (t.link l).buffer0 = ⟨.free, []⟩ ∧ (t.link l).buffer1 = ⟨.free, []⟩ ∧
        (t.link l).receiver = if (s.link l).entry.enabled = true then .hunt else .disabled) ∧
      (∀ x, t.desc x =
        { tag := (s.desc x).tag, state := .free, cause := none, relation := .none, outcome := none
          skip := none, sensors := Vector.replicate 8 ⟨0, false, false⟩, ready := [], markers := 0
          openedAt := (s.desc x).openedAt, closedAt := (s.desc x).closedAt }) ∧
      t.sau.lastClosed = none ∧ t.sau.copy = none ∧ t.sau.heldExpiry = false ∧ t.sau.closeOrder = [] ∧
      t.sau.rotation = 7 ∧ t.sau.lastOpened = .b ∧ t.freeBuffer = some .a ∧
      t.ctu = { s.ctu with
        timebase := 0, deadlineAt := none
        paceAt := if s.ctu.trigger = .paced then some (microseconds s.ctu.pacePending) else none
        paceCurrent := if s.ctu.trigger = .paced then s.ctu.pacePending else s.ctu.paceCurrent } ∧
      t.mmc = { s.mmc with
        swap := none, corrected := 0, uncorrectable := 0, engineWaits := none, recorderWaits := none
        hostWaits := none, port := s.mmc.port.map fun p => { p with dropped := true } } ∧
      t.rce = (if s.enginePort = true then
          { s.rce with state := .draining, sums := Vector.replicate 1024 0, residuals := [] }
        else ⟨.idle, none, none, none, Vector.replicate 1024 0, none, none, 0, []⟩) ∧
      (∀ (i : Nat) (r : ActiveRecord), s.tfu.active.toList[i]? = some r → t.tfu.active.toList[i]? =
        some { r with
          saturations := 0
          acc := if 0 < r.params.low then r.params.low else if r.params.high < 0 then r.params.high else 0 }) ∧
      t.tfu.shadow = s.tfu.shadow ∧ t.tfu.activePairs = s.tfu.activePairs ∧
      t.tfu.shadowPairs = s.tfu.shadowPairs ∧ t.tfu.applyPending = false ∧ t.tfu.applyDue = false ∧
      t.tfu.pass = none ∧
      t.lsv = { Lsv.reset with skipLimit := s.lsv.skipLimit, saturationLimit := s.lsv.saturationLimit } ∧
      t.drp.settings = s.drp.settings ∧ t.drp.queue = [] ∧ t.drp.transmit = false ∧ t.drp.counts = .zero ∧
      t.drp.train = none ∧ t.drp.holding = none ∧ t.drp.markPassed = false ∧ t.drp.headSeen = false ∧
      t.drp.headOpen = false ∧ t.drp.leaveRequested = false ∧
      (if s.drp.state = .sending ∧ s.drp.markSent = false then
        t.drp.state = .sending ∧ t.drp.resetEnding = true ∧ t.drp.markSent = false ∧
          if s.drp.resetEnding = true then t.drp.unsent = s.drp.unsent ∧ t.ringOut = s.ringOut
          else ∃ n : Nat, t.ringOut = s.ringOut ++ s.drp.unsent.take n ∧
            t.drp.unsent = if n < s.drp.unsent.length then [.abort] else []
      else
        t.drp.state = .bypass ∧ t.ringOut = s.ringOut ++
          (if s.drp.state = .listening ∨ s.drp.state = .onRing ∨ s.drp.state = .leaving then
            s.drp.holding.toList else [])) ∧
      t.tmr = { Tmr.reset with config := s.tmr.config } ∧
      t.pending = s.pending ∧ t.inReset = false ∧
      t.clp = { s.clp with
        requests := [], inExec := none, replies := [], notices := [], sending := none, resetInHand := false
        receiveErrors := 0, syncLosses := 0, queueFull := 0, dropped := 0, lastReset := .soft
        resetPoint := s.ctu.timebase } ∧
      (let ws : List Word := [0x4005, tag, 0, 0]
       t.controlOut = s.controlOut ++ .openSym :: ws.map .data ++ [.data (ws.foldl crcWord 0xFFFF), .closeSym]))

/-- Every step keeps the equation of R132: buffers opened are cycles completed, skipped, abandoned, and the
buffers that still owe an outcome, with what keeps it so. -/
def Obligations.CyclesStayAccounted : Prop :=
  ∀ s t : State, s.CyclesAccounted → step s = .next t → t.CyclesAccounted
end

