-- ==== Sys2Proof/Laws/State.lean ====
section
/-! SUPPORT. One lemma per field of State and update of a block: an update changes its own block, by the
function it is given, and no other field; and the block accessors read through every update of another block. -/

namespace Sys2Proof.Machine

variable (s : State)

/-! ### updSau -/

@[simp] theorem State.updSau_pending (f : Sau → Sau) : (s.updSau f).pending = s.pending := rfl
@[simp] theorem State.updSau_inReset (f : Sau → Sau) : (s.updSau f).inReset = s.inReset := rfl
@[simp] theorem State.updSau_links (f : Sau → Sau) : (s.updSau f).links = s.links := rfl
@[simp] theorem State.updSau_sau (f : Sau → Sau) : (s.updSau f).sau = f s.sau := rfl
@[simp] theorem State.updSau_ctu (f : Sau → Sau) : (s.updSau f).ctu = s.ctu := rfl
@[simp] theorem State.updSau_mmc (f : Sau → Sau) : (s.updSau f).mmc = s.mmc := rfl
@[simp] theorem State.updSau_rce (f : Sau → Sau) : (s.updSau f).rce = s.rce := rfl
@[simp] theorem State.updSau_tfu (f : Sau → Sau) : (s.updSau f).tfu = s.tfu := rfl
@[simp] theorem State.updSau_lsv (f : Sau → Sau) : (s.updSau f).lsv = s.lsv := rfl
@[simp] theorem State.updSau_drp (f : Sau → Sau) : (s.updSau f).drp = s.drp := rfl
@[simp] theorem State.updSau_tmr (f : Sau → Sau) : (s.updSau f).tmr = s.tmr := rfl
@[simp] theorem State.updSau_clp (f : Sau → Sau) : (s.updSau f).clp = s.clp := rfl
@[simp] theorem State.updSau_ringOut (f : Sau → Sau) : (s.updSau f).ringOut = s.ringOut := rfl
@[simp] theorem State.updSau_controlOut (f : Sau → Sau) : (s.updSau f).controlOut = s.controlOut := rfl
@[simp] theorem State.updSau_drawn (f : Sau → Sau) : (s.updSau f).drawn = s.drawn := rfl

/-! ### updCtu -/

@[simp] theorem State.updCtu_pending (f : Ctu → Ctu) : (s.updCtu f).pending = s.pending := rfl
@[simp] theorem State.updCtu_inReset (f : Ctu → Ctu) : (s.updCtu f).inReset = s.inReset := rfl
@[simp] theorem State.updCtu_links (f : Ctu → Ctu) : (s.updCtu f).links = s.links := rfl
@[simp] theorem State.updCtu_sau (f : Ctu → Ctu) : (s.updCtu f).sau = s.sau := rfl
@[simp] theorem State.updCtu_ctu (f : Ctu → Ctu) : (s.updCtu f).ctu = f s.ctu := rfl
@[simp] theorem State.updCtu_mmc (f : Ctu → Ctu) : (s.updCtu f).mmc = s.mmc := rfl
@[simp] theorem State.updCtu_rce (f : Ctu → Ctu) : (s.updCtu f).rce = s.rce := rfl
@[simp] theorem State.updCtu_tfu (f : Ctu → Ctu) : (s.updCtu f).tfu = s.tfu := rfl
@[simp] theorem State.updCtu_lsv (f : Ctu → Ctu) : (s.updCtu f).lsv = s.lsv := rfl
@[simp] theorem State.updCtu_drp (f : Ctu → Ctu) : (s.updCtu f).drp = s.drp := rfl
@[simp] theorem State.updCtu_tmr (f : Ctu → Ctu) : (s.updCtu f).tmr = s.tmr := rfl
@[simp] theorem State.updCtu_clp (f : Ctu → Ctu) : (s.updCtu f).clp = s.clp := rfl
@[simp] theorem State.updCtu_ringOut (f : Ctu → Ctu) : (s.updCtu f).ringOut = s.ringOut := rfl
@[simp] theorem State.updCtu_controlOut (f : Ctu → Ctu) : (s.updCtu f).controlOut = s.controlOut := rfl
@[simp] theorem State.updCtu_drawn (f : Ctu → Ctu) : (s.updCtu f).drawn = s.drawn := rfl

/-! ### updMmc -/

@[simp] theorem State.updMmc_pending (f : Mmc → Mmc) : (s.updMmc f).pending = s.pending := rfl
@[simp] theorem State.updMmc_inReset (f : Mmc → Mmc) : (s.updMmc f).inReset = s.inReset := rfl
@[simp] theorem State.updMmc_links (f : Mmc → Mmc) : (s.updMmc f).links = s.links := rfl
@[simp] theorem State.updMmc_sau (f : Mmc → Mmc) : (s.updMmc f).sau = s.sau := rfl
@[simp] theorem State.updMmc_ctu (f : Mmc → Mmc) : (s.updMmc f).ctu = s.ctu := rfl
@[simp] theorem State.updMmc_mmc (f : Mmc → Mmc) : (s.updMmc f).mmc = f s.mmc := rfl
@[simp] theorem State.updMmc_rce (f : Mmc → Mmc) : (s.updMmc f).rce = s.rce := rfl
@[simp] theorem State.updMmc_tfu (f : Mmc → Mmc) : (s.updMmc f).tfu = s.tfu := rfl
@[simp] theorem State.updMmc_lsv (f : Mmc → Mmc) : (s.updMmc f).lsv = s.lsv := rfl
@[simp] theorem State.updMmc_drp (f : Mmc → Mmc) : (s.updMmc f).drp = s.drp := rfl
@[simp] theorem State.updMmc_tmr (f : Mmc → Mmc) : (s.updMmc f).tmr = s.tmr := rfl
@[simp] theorem State.updMmc_clp (f : Mmc → Mmc) : (s.updMmc f).clp = s.clp := rfl
@[simp] theorem State.updMmc_ringOut (f : Mmc → Mmc) : (s.updMmc f).ringOut = s.ringOut := rfl
@[simp] theorem State.updMmc_controlOut (f : Mmc → Mmc) : (s.updMmc f).controlOut = s.controlOut := rfl
@[simp] theorem State.updMmc_drawn (f : Mmc → Mmc) : (s.updMmc f).drawn = s.drawn := rfl

/-! ### updRce -/

@[simp] theorem State.updRce_pending (f : Rce → Rce) : (s.updRce f).pending = s.pending := rfl
@[simp] theorem State.updRce_inReset (f : Rce → Rce) : (s.updRce f).inReset = s.inReset := rfl
@[simp] theorem State.updRce_links (f : Rce → Rce) : (s.updRce f).links = s.links := rfl
@[simp] theorem State.updRce_sau (f : Rce → Rce) : (s.updRce f).sau = s.sau := rfl
@[simp] theorem State.updRce_ctu (f : Rce → Rce) : (s.updRce f).ctu = s.ctu := rfl
@[simp] theorem State.updRce_mmc (f : Rce → Rce) : (s.updRce f).mmc = s.mmc := rfl
@[simp] theorem State.updRce_rce (f : Rce → Rce) : (s.updRce f).rce = f s.rce := rfl
@[simp] theorem State.updRce_tfu (f : Rce → Rce) : (s.updRce f).tfu = s.tfu := rfl
@[simp] theorem State.updRce_lsv (f : Rce → Rce) : (s.updRce f).lsv = s.lsv := rfl
@[simp] theorem State.updRce_drp (f : Rce → Rce) : (s.updRce f).drp = s.drp := rfl
@[simp] theorem State.updRce_tmr (f : Rce → Rce) : (s.updRce f).tmr = s.tmr := rfl
@[simp] theorem State.updRce_clp (f : Rce → Rce) : (s.updRce f).clp = s.clp := rfl
@[simp] theorem State.updRce_ringOut (f : Rce → Rce) : (s.updRce f).ringOut = s.ringOut := rfl
@[simp] theorem State.updRce_controlOut (f : Rce → Rce) : (s.updRce f).controlOut = s.controlOut := rfl
@[simp] theorem State.updRce_drawn (f : Rce → Rce) : (s.updRce f).drawn = s.drawn := rfl

/-! ### updTfu -/

@[simp] theorem State.updTfu_pending (f : Tfu → Tfu) : (s.updTfu f).pending = s.pending := rfl
@[simp] theorem State.updTfu_inReset (f : Tfu → Tfu) : (s.updTfu f).inReset = s.inReset := rfl
@[simp] theorem State.updTfu_links (f : Tfu → Tfu) : (s.updTfu f).links = s.links := rfl
@[simp] theorem State.updTfu_sau (f : Tfu → Tfu) : (s.updTfu f).sau = s.sau := rfl
@[simp] theorem State.updTfu_ctu (f : Tfu → Tfu) : (s.updTfu f).ctu = s.ctu := rfl
@[simp] theorem State.updTfu_mmc (f : Tfu → Tfu) : (s.updTfu f).mmc = s.mmc := rfl
@[simp] theorem State.updTfu_rce (f : Tfu → Tfu) : (s.updTfu f).rce = s.rce := rfl
@[simp] theorem State.updTfu_tfu (f : Tfu → Tfu) : (s.updTfu f).tfu = f s.tfu := rfl
@[simp] theorem State.updTfu_lsv (f : Tfu → Tfu) : (s.updTfu f).lsv = s.lsv := rfl
@[simp] theorem State.updTfu_drp (f : Tfu → Tfu) : (s.updTfu f).drp = s.drp := rfl
@[simp] theorem State.updTfu_tmr (f : Tfu → Tfu) : (s.updTfu f).tmr = s.tmr := rfl
@[simp] theorem State.updTfu_clp (f : Tfu → Tfu) : (s.updTfu f).clp = s.clp := rfl
@[simp] theorem State.updTfu_ringOut (f : Tfu → Tfu) : (s.updTfu f).ringOut = s.ringOut := rfl
@[simp] theorem State.updTfu_controlOut (f : Tfu → Tfu) : (s.updTfu f).controlOut = s.controlOut := rfl
@[simp] theorem State.updTfu_drawn (f : Tfu → Tfu) : (s.updTfu f).drawn = s.drawn := rfl

/-! ### updLsv -/

@[simp] theorem State.updLsv_pending (f : Lsv → Lsv) : (s.updLsv f).pending = s.pending := rfl
@[simp] theorem State.updLsv_inReset (f : Lsv → Lsv) : (s.updLsv f).inReset = s.inReset := rfl
@[simp] theorem State.updLsv_links (f : Lsv → Lsv) : (s.updLsv f).links = s.links := rfl
@[simp] theorem State.updLsv_sau (f : Lsv → Lsv) : (s.updLsv f).sau = s.sau := rfl
@[simp] theorem State.updLsv_ctu (f : Lsv → Lsv) : (s.updLsv f).ctu = s.ctu := rfl
@[simp] theorem State.updLsv_mmc (f : Lsv → Lsv) : (s.updLsv f).mmc = s.mmc := rfl
@[simp] theorem State.updLsv_rce (f : Lsv → Lsv) : (s.updLsv f).rce = s.rce := rfl
@[simp] theorem State.updLsv_tfu (f : Lsv → Lsv) : (s.updLsv f).tfu = s.tfu := rfl
@[simp] theorem State.updLsv_lsv (f : Lsv → Lsv) : (s.updLsv f).lsv = f s.lsv := rfl
@[simp] theorem State.updLsv_drp (f : Lsv → Lsv) : (s.updLsv f).drp = s.drp := rfl
@[simp] theorem State.updLsv_tmr (f : Lsv → Lsv) : (s.updLsv f).tmr = s.tmr := rfl
@[simp] theorem State.updLsv_clp (f : Lsv → Lsv) : (s.updLsv f).clp = s.clp := rfl
@[simp] theorem State.updLsv_ringOut (f : Lsv → Lsv) : (s.updLsv f).ringOut = s.ringOut := rfl
@[simp] theorem State.updLsv_controlOut (f : Lsv → Lsv) : (s.updLsv f).controlOut = s.controlOut := rfl
@[simp] theorem State.updLsv_drawn (f : Lsv → Lsv) : (s.updLsv f).drawn = s.drawn := rfl

/-! ### updDrp -/

@[simp] theorem State.updDrp_pending (f : Drp → Drp) : (s.updDrp f).pending = s.pending := rfl
@[simp] theorem State.updDrp_inReset (f : Drp → Drp) : (s.updDrp f).inReset = s.inReset := rfl
@[simp] theorem State.updDrp_links (f : Drp → Drp) : (s.updDrp f).links = s.links := rfl
@[simp] theorem State.updDrp_sau (f : Drp → Drp) : (s.updDrp f).sau = s.sau := rfl
@[simp] theorem State.updDrp_ctu (f : Drp → Drp) : (s.updDrp f).ctu = s.ctu := rfl
@[simp] theorem State.updDrp_mmc (f : Drp → Drp) : (s.updDrp f).mmc = s.mmc := rfl
@[simp] theorem State.updDrp_rce (f : Drp → Drp) : (s.updDrp f).rce = s.rce := rfl
@[simp] theorem State.updDrp_tfu (f : Drp → Drp) : (s.updDrp f).tfu = s.tfu := rfl
@[simp] theorem State.updDrp_lsv (f : Drp → Drp) : (s.updDrp f).lsv = s.lsv := rfl
@[simp] theorem State.updDrp_drp (f : Drp → Drp) : (s.updDrp f).drp = f s.drp := rfl
@[simp] theorem State.updDrp_tmr (f : Drp → Drp) : (s.updDrp f).tmr = s.tmr := rfl
@[simp] theorem State.updDrp_clp (f : Drp → Drp) : (s.updDrp f).clp = s.clp := rfl
@[simp] theorem State.updDrp_ringOut (f : Drp → Drp) : (s.updDrp f).ringOut = s.ringOut := rfl
@[simp] theorem State.updDrp_controlOut (f : Drp → Drp) : (s.updDrp f).controlOut = s.controlOut := rfl
@[simp] theorem State.updDrp_drawn (f : Drp → Drp) : (s.updDrp f).drawn = s.drawn := rfl

/-! ### updTmr -/

@[simp] theorem State.updTmr_pending (f : Tmr → Tmr) : (s.updTmr f).pending = s.pending := rfl
@[simp] theorem State.updTmr_inReset (f : Tmr → Tmr) : (s.updTmr f).inReset = s.inReset := rfl
@[simp] theorem State.updTmr_links (f : Tmr → Tmr) : (s.updTmr f).links = s.links := rfl
@[simp] theorem State.updTmr_sau (f : Tmr → Tmr) : (s.updTmr f).sau = s.sau := rfl
@[simp] theorem State.updTmr_ctu (f : Tmr → Tmr) : (s.updTmr f).ctu = s.ctu := rfl
@[simp] theorem State.updTmr_mmc (f : Tmr → Tmr) : (s.updTmr f).mmc = s.mmc := rfl
@[simp] theorem State.updTmr_rce (f : Tmr → Tmr) : (s.updTmr f).rce = s.rce := rfl
@[simp] theorem State.updTmr_tfu (f : Tmr → Tmr) : (s.updTmr f).tfu = s.tfu := rfl
@[simp] theorem State.updTmr_lsv (f : Tmr → Tmr) : (s.updTmr f).lsv = s.lsv := rfl
@[simp] theorem State.updTmr_drp (f : Tmr → Tmr) : (s.updTmr f).drp = s.drp := rfl
@[simp] theorem State.updTmr_tmr (f : Tmr → Tmr) : (s.updTmr f).tmr = f s.tmr := rfl
@[simp] theorem State.updTmr_clp (f : Tmr → Tmr) : (s.updTmr f).clp = s.clp := rfl
@[simp] theorem State.updTmr_ringOut (f : Tmr → Tmr) : (s.updTmr f).ringOut = s.ringOut := rfl
@[simp] theorem State.updTmr_controlOut (f : Tmr → Tmr) : (s.updTmr f).controlOut = s.controlOut := rfl
@[simp] theorem State.updTmr_drawn (f : Tmr → Tmr) : (s.updTmr f).drawn = s.drawn := rfl

/-! ### updClp -/

@[simp] theorem State.updClp_pending (f : Clp → Clp) : (s.updClp f).pending = s.pending := rfl
@[simp] theorem State.updClp_inReset (f : Clp → Clp) : (s.updClp f).inReset = s.inReset := rfl
@[simp] theorem State.updClp_links (f : Clp → Clp) : (s.updClp f).links = s.links := rfl
@[simp] theorem State.updClp_sau (f : Clp → Clp) : (s.updClp f).sau = s.sau := rfl
@[simp] theorem State.updClp_ctu (f : Clp → Clp) : (s.updClp f).ctu = s.ctu := rfl
@[simp] theorem State.updClp_mmc (f : Clp → Clp) : (s.updClp f).mmc = s.mmc := rfl
@[simp] theorem State.updClp_rce (f : Clp → Clp) : (s.updClp f).rce = s.rce := rfl
@[simp] theorem State.updClp_tfu (f : Clp → Clp) : (s.updClp f).tfu = s.tfu := rfl
@[simp] theorem State.updClp_lsv (f : Clp → Clp) : (s.updClp f).lsv = s.lsv := rfl
@[simp] theorem State.updClp_drp (f : Clp → Clp) : (s.updClp f).drp = s.drp := rfl
@[simp] theorem State.updClp_tmr (f : Clp → Clp) : (s.updClp f).tmr = s.tmr := rfl
@[simp] theorem State.updClp_clp (f : Clp → Clp) : (s.updClp f).clp = f s.clp := rfl
@[simp] theorem State.updClp_ringOut (f : Clp → Clp) : (s.updClp f).ringOut = s.ringOut := rfl
@[simp] theorem State.updClp_controlOut (f : Clp → Clp) : (s.updClp f).controlOut = s.controlOut := rfl
@[simp] theorem State.updClp_drawn (f : Clp → Clp) : (s.updClp f).drawn = s.drawn := rfl

/-! ### updLink -/

@[simp] theorem State.updLink_pending (l : Link) (f : LinkState → LinkState) : (s.updLink l f).pending = s.pending := rfl
@[simp] theorem State.updLink_inReset (l : Link) (f : LinkState → LinkState) : (s.updLink l f).inReset = s.inReset := rfl
@[simp] theorem State.updLink_sau (l : Link) (f : LinkState → LinkState) : (s.updLink l f).sau = s.sau := rfl
@[simp] theorem State.updLink_ctu (l : Link) (f : LinkState → LinkState) : (s.updLink l f).ctu = s.ctu := rfl
@[simp] theorem State.updLink_mmc (l : Link) (f : LinkState → LinkState) : (s.updLink l f).mmc = s.mmc := rfl
@[simp] theorem State.updLink_rce (l : Link) (f : LinkState → LinkState) : (s.updLink l f).rce = s.rce := rfl
@[simp] theorem State.updLink_tfu (l : Link) (f : LinkState → LinkState) : (s.updLink l f).tfu = s.tfu := rfl
@[simp] theorem State.updLink_lsv (l : Link) (f : LinkState → LinkState) : (s.updLink l f).lsv = s.lsv := rfl
@[simp] theorem State.updLink_drp (l : Link) (f : LinkState → LinkState) : (s.updLink l f).drp = s.drp := rfl
@[simp] theorem State.updLink_tmr (l : Link) (f : LinkState → LinkState) : (s.updLink l f).tmr = s.tmr := rfl
@[simp] theorem State.updLink_clp (l : Link) (f : LinkState → LinkState) : (s.updLink l f).clp = s.clp := rfl
@[simp] theorem State.updLink_ringOut (l : Link) (f : LinkState → LinkState) : (s.updLink l f).ringOut = s.ringOut := rfl
@[simp] theorem State.updLink_controlOut (l : Link) (f : LinkState → LinkState) : (s.updLink l f).controlOut = s.controlOut := rfl
@[simp] theorem State.updLink_drawn (l : Link) (f : LinkState → LinkState) : (s.updLink l f).drawn = s.drawn := rfl

/-! ### updLinks -/

@[simp] theorem State.updLinks_pending (f : LinkState → LinkState) : (s.updLinks f).pending = s.pending := rfl
@[simp] theorem State.updLinks_inReset (f : LinkState → LinkState) : (s.updLinks f).inReset = s.inReset := rfl
@[simp] theorem State.updLinks_sau (f : LinkState → LinkState) : (s.updLinks f).sau = s.sau := rfl
@[simp] theorem State.updLinks_ctu (f : LinkState → LinkState) : (s.updLinks f).ctu = s.ctu := rfl
@[simp] theorem State.updLinks_mmc (f : LinkState → LinkState) : (s.updLinks f).mmc = s.mmc := rfl
@[simp] theorem State.updLinks_rce (f : LinkState → LinkState) : (s.updLinks f).rce = s.rce := rfl
@[simp] theorem State.updLinks_tfu (f : LinkState → LinkState) : (s.updLinks f).tfu = s.tfu := rfl
@[simp] theorem State.updLinks_lsv (f : LinkState → LinkState) : (s.updLinks f).lsv = s.lsv := rfl
@[simp] theorem State.updLinks_drp (f : LinkState → LinkState) : (s.updLinks f).drp = s.drp := rfl
@[simp] theorem State.updLinks_tmr (f : LinkState → LinkState) : (s.updLinks f).tmr = s.tmr := rfl
@[simp] theorem State.updLinks_clp (f : LinkState → LinkState) : (s.updLinks f).clp = s.clp := rfl
@[simp] theorem State.updLinks_ringOut (f : LinkState → LinkState) : (s.updLinks f).ringOut = s.ringOut := rfl
@[simp] theorem State.updLinks_controlOut (f : LinkState → LinkState) : (s.updLinks f).controlOut = s.controlOut := rfl
@[simp] theorem State.updLinks_drawn (f : LinkState → LinkState) : (s.updLinks f).drawn = s.drawn := rfl

/-! ### updCounts -/

@[simp] theorem State.updCounts_pending (f : CycleCounts → CycleCounts) : (s.updCounts f).pending = s.pending := rfl
@[simp] theorem State.updCounts_inReset (f : CycleCounts → CycleCounts) : (s.updCounts f).inReset = s.inReset := rfl
@[simp] theorem State.updCounts_links (f : CycleCounts → CycleCounts) : (s.updCounts f).links = s.links := rfl
@[simp] theorem State.updCounts_sau (f : CycleCounts → CycleCounts) : (s.updCounts f).sau = s.sau := rfl
@[simp] theorem State.updCounts_ctu (f : CycleCounts → CycleCounts) : (s.updCounts f).ctu = s.ctu := rfl
@[simp] theorem State.updCounts_mmc (f : CycleCounts → CycleCounts) : (s.updCounts f).mmc = s.mmc := rfl
@[simp] theorem State.updCounts_rce (f : CycleCounts → CycleCounts) : (s.updCounts f).rce = s.rce := rfl
@[simp] theorem State.updCounts_tfu (f : CycleCounts → CycleCounts) : (s.updCounts f).tfu = s.tfu := rfl
@[simp] theorem State.updCounts_drp (f : CycleCounts → CycleCounts) : (s.updCounts f).drp = s.drp := rfl
@[simp] theorem State.updCounts_tmr (f : CycleCounts → CycleCounts) : (s.updCounts f).tmr = s.tmr := rfl
@[simp] theorem State.updCounts_clp (f : CycleCounts → CycleCounts) : (s.updCounts f).clp = s.clp := rfl
@[simp] theorem State.updCounts_ringOut (f : CycleCounts → CycleCounts) : (s.updCounts f).ringOut = s.ringOut := rfl
@[simp] theorem State.updCounts_controlOut (f : CycleCounts → CycleCounts) : (s.updCounts f).controlOut = s.controlOut := rfl
@[simp] theorem State.updCounts_drawn (f : CycleCounts → CycleCounts) : (s.updCounts f).drawn = s.drawn := rfl

/-! ### sendRing -/

@[simp] theorem State.sendRing_pending (cs : List Code) : (s.sendRing cs).pending = s.pending := rfl
@[simp] theorem State.sendRing_inReset (cs : List Code) : (s.sendRing cs).inReset = s.inReset := rfl
@[simp] theorem State.sendRing_links (cs : List Code) : (s.sendRing cs).links = s.links := rfl
@[simp] theorem State.sendRing_sau (cs : List Code) : (s.sendRing cs).sau = s.sau := rfl
@[simp] theorem State.sendRing_ctu (cs : List Code) : (s.sendRing cs).ctu = s.ctu := rfl
@[simp] theorem State.sendRing_mmc (cs : List Code) : (s.sendRing cs).mmc = s.mmc := rfl
@[simp] theorem State.sendRing_rce (cs : List Code) : (s.sendRing cs).rce = s.rce := rfl
@[simp] theorem State.sendRing_tfu (cs : List Code) : (s.sendRing cs).tfu = s.tfu := rfl
@[simp] theorem State.sendRing_lsv (cs : List Code) : (s.sendRing cs).lsv = s.lsv := rfl
@[simp] theorem State.sendRing_drp (cs : List Code) : (s.sendRing cs).drp = s.drp := rfl
@[simp] theorem State.sendRing_tmr (cs : List Code) : (s.sendRing cs).tmr = s.tmr := rfl
@[simp] theorem State.sendRing_clp (cs : List Code) : (s.sendRing cs).clp = s.clp := rfl
@[simp] theorem State.sendRing_controlOut (cs : List Code) : (s.sendRing cs).controlOut = s.controlOut := rfl
@[simp] theorem State.sendRing_drawn (cs : List Code) : (s.sendRing cs).drawn = s.drawn := rfl

/-! ### sendControl -/

@[simp] theorem State.sendControl_pending (cs : List Code) : (s.sendControl cs).pending = s.pending := rfl
@[simp] theorem State.sendControl_inReset (cs : List Code) : (s.sendControl cs).inReset = s.inReset := rfl
@[simp] theorem State.sendControl_links (cs : List Code) : (s.sendControl cs).links = s.links := rfl
@[simp] theorem State.sendControl_sau (cs : List Code) : (s.sendControl cs).sau = s.sau := rfl
@[simp] theorem State.sendControl_ctu (cs : List Code) : (s.sendControl cs).ctu = s.ctu := rfl
@[simp] theorem State.sendControl_mmc (cs : List Code) : (s.sendControl cs).mmc = s.mmc := rfl
@[simp] theorem State.sendControl_rce (cs : List Code) : (s.sendControl cs).rce = s.rce := rfl
@[simp] theorem State.sendControl_tfu (cs : List Code) : (s.sendControl cs).tfu = s.tfu := rfl
@[simp] theorem State.sendControl_lsv (cs : List Code) : (s.sendControl cs).lsv = s.lsv := rfl
@[simp] theorem State.sendControl_drp (cs : List Code) : (s.sendControl cs).drp = s.drp := rfl
@[simp] theorem State.sendControl_tmr (cs : List Code) : (s.sendControl cs).tmr = s.tmr := rfl
@[simp] theorem State.sendControl_clp (cs : List Code) : (s.sendControl cs).clp = s.clp := rfl
@[simp] theorem State.sendControl_ringOut (cs : List Code) : (s.sendControl cs).ringOut = s.ringOut := rfl
@[simp] theorem State.sendControl_drawn (cs : List Code) : (s.sendControl cs).drawn = s.drawn := rfl

@[simp] theorem State.sendRing_ringOut (cs : List Code) : (s.sendRing cs).ringOut = s.ringOut ++ cs := rfl
@[simp] theorem State.sendControl_controlOut (cs : List Code) : (s.sendControl cs).controlOut = s.controlOut ++ cs := rfl

/-! ### updBuffer and updDesc, updBank -/

@[simp] theorem State.updBuffer_pending (x : BufferId) (f : SlopeBuffer → SlopeBuffer) : (s.updBuffer x f).pending = s.pending := rfl
@[simp] theorem State.updDesc_pending (x : BufferId) (f : Descriptor → Descriptor) : (s.updDesc x f).pending = s.pending := rfl
@[simp] theorem State.updBank_pending (k : BankId) (f : Bank → Bank) : (s.updBank k f).pending = s.pending := rfl
@[simp] theorem State.updBuffer_inReset (x : BufferId) (f : SlopeBuffer → SlopeBuffer) : (s.updBuffer x f).inReset = s.inReset := rfl
@[simp] theorem State.updDesc_inReset (x : BufferId) (f : Descriptor → Descriptor) : (s.updDesc x f).inReset = s.inReset := rfl
@[simp] theorem State.updBank_inReset (k : BankId) (f : Bank → Bank) : (s.updBank k f).inReset = s.inReset := rfl
@[simp] theorem State.updBuffer_links (x : BufferId) (f : SlopeBuffer → SlopeBuffer) : (s.updBuffer x f).links = s.links := rfl
@[simp] theorem State.updDesc_links (x : BufferId) (f : Descriptor → Descriptor) : (s.updDesc x f).links = s.links := rfl
@[simp] theorem State.updBank_links (k : BankId) (f : Bank → Bank) : (s.updBank k f).links = s.links := rfl
@[simp] theorem State.updBank_sau (k : BankId) (f : Bank → Bank) : (s.updBank k f).sau = s.sau := rfl
@[simp] theorem State.updBuffer_ctu (x : BufferId) (f : SlopeBuffer → SlopeBuffer) : (s.updBuffer x f).ctu = s.ctu := rfl
@[simp] theorem State.updDesc_ctu (x : BufferId) (f : Descriptor → Descriptor) : (s.updDesc x f).ctu = s.ctu := rfl
@[simp] theorem State.updBank_ctu (k : BankId) (f : Bank → Bank) : (s.updBank k f).ctu = s.ctu := rfl
@[simp] theorem State.updBuffer_mmc (x : BufferId) (f : SlopeBuffer → SlopeBuffer) : (s.updBuffer x f).mmc = s.mmc := rfl
@[simp] theorem State.updDesc_mmc (x : BufferId) (f : Descriptor → Descriptor) : (s.updDesc x f).mmc = s.mmc := rfl
@[simp] theorem State.updBuffer_rce (x : BufferId) (f : SlopeBuffer → SlopeBuffer) : (s.updBuffer x f).rce = s.rce := rfl
@[simp] theorem State.updDesc_rce (x : BufferId) (f : Descriptor → Descriptor) : (s.updDesc x f).rce = s.rce := rfl
@[simp] theorem State.updBank_rce (k : BankId) (f : Bank → Bank) : (s.updBank k f).rce = s.rce := rfl
@[simp] theorem State.updBuffer_tfu (x : BufferId) (f : SlopeBuffer → SlopeBuffer) : (s.updBuffer x f).tfu = s.tfu := rfl
@[simp] theorem State.updDesc_tfu (x : BufferId) (f : Descriptor → Descriptor) : (s.updDesc x f).tfu = s.tfu := rfl
@[simp] theorem State.updBank_tfu (k : BankId) (f : Bank → Bank) : (s.updBank k f).tfu = s.tfu := rfl
@[simp] theorem State.updBuffer_lsv (x : BufferId) (f : SlopeBuffer → SlopeBuffer) : (s.updBuffer x f).lsv = s.lsv := rfl
@[simp] theorem State.updDesc_lsv (x : BufferId) (f : Descriptor → Descriptor) : (s.updDesc x f).lsv = s.lsv := rfl
@[simp] theorem State.updBank_lsv (k : BankId) (f : Bank → Bank) : (s.updBank k f).lsv = s.lsv := rfl
@[simp] theorem State.updBuffer_drp (x : BufferId) (f : SlopeBuffer → SlopeBuffer) : (s.updBuffer x f).drp = s.drp := rfl
@[simp] theorem State.updDesc_drp (x : BufferId) (f : Descriptor → Descriptor) : (s.updDesc x f).drp = s.drp := rfl
@[simp] theorem State.updBank_drp (k : BankId) (f : Bank → Bank) : (s.updBank k f).drp = s.drp := rfl
@[simp] theorem State.updBuffer_tmr (x : BufferId) (f : SlopeBuffer → SlopeBuffer) : (s.updBuffer x f).tmr = s.tmr := rfl
@[simp] theorem State.updDesc_tmr (x : BufferId) (f : Descriptor → Descriptor) : (s.updDesc x f).tmr = s.tmr := rfl
@[simp] theorem State.updBank_tmr (k : BankId) (f : Bank → Bank) : (s.updBank k f).tmr = s.tmr := rfl
@[simp] theorem State.updBuffer_clp (x : BufferId) (f : SlopeBuffer → SlopeBuffer) : (s.updBuffer x f).clp = s.clp := rfl
@[simp] theorem State.updDesc_clp (x : BufferId) (f : Descriptor → Descriptor) : (s.updDesc x f).clp = s.clp := rfl
@[simp] theorem State.updBank_clp (k : BankId) (f : Bank → Bank) : (s.updBank k f).clp = s.clp := rfl
@[simp] theorem State.updBuffer_ringOut (x : BufferId) (f : SlopeBuffer → SlopeBuffer) : (s.updBuffer x f).ringOut = s.ringOut := rfl
@[simp] theorem State.updDesc_ringOut (x : BufferId) (f : Descriptor → Descriptor) : (s.updDesc x f).ringOut = s.ringOut := rfl
@[simp] theorem State.updBank_ringOut (k : BankId) (f : Bank → Bank) : (s.updBank k f).ringOut = s.ringOut := rfl
@[simp] theorem State.updBuffer_controlOut (x : BufferId) (f : SlopeBuffer → SlopeBuffer) : (s.updBuffer x f).controlOut = s.controlOut := rfl
@[simp] theorem State.updDesc_controlOut (x : BufferId) (f : Descriptor → Descriptor) : (s.updDesc x f).controlOut = s.controlOut := rfl
@[simp] theorem State.updBank_controlOut (k : BankId) (f : Bank → Bank) : (s.updBank k f).controlOut = s.controlOut := rfl
@[simp] theorem State.updBuffer_drawn (x : BufferId) (f : SlopeBuffer → SlopeBuffer) : (s.updBuffer x f).drawn = s.drawn := rfl
@[simp] theorem State.updDesc_drawn (x : BufferId) (f : Descriptor → Descriptor) : (s.updDesc x f).drawn = s.drawn := rfl
@[simp] theorem State.updBank_drawn (k : BankId) (f : Bank → Bank) : (s.updBank k f).drawn = s.drawn := rfl

/-! ### Accessors -/

@[simp] theorem State.link_updSau (f : Sau → Sau) (l : Link) : (s.updSau f).link l = s.link l := rfl
@[simp] theorem State.link_updCtu (f : Ctu → Ctu) (l : Link) : (s.updCtu f).link l = s.link l := rfl
@[simp] theorem State.link_updMmc (f : Mmc → Mmc) (l : Link) : (s.updMmc f).link l = s.link l := rfl
@[simp] theorem State.link_updRce (f : Rce → Rce) (l : Link) : (s.updRce f).link l = s.link l := rfl
@[simp] theorem State.link_updTfu (f : Tfu → Tfu) (l : Link) : (s.updTfu f).link l = s.link l := rfl
@[simp] theorem State.link_updLsv (f : Lsv → Lsv) (l : Link) : (s.updLsv f).link l = s.link l := rfl
@[simp] theorem State.link_updDrp (f : Drp → Drp) (l : Link) : (s.updDrp f).link l = s.link l := rfl
@[simp] theorem State.link_updTmr (f : Tmr → Tmr) (l : Link) : (s.updTmr f).link l = s.link l := rfl
@[simp] theorem State.link_updClp (f : Clp → Clp) (l : Link) : (s.updClp f).link l = s.link l := rfl
@[simp] theorem State.buffer_updCtu (f : Ctu → Ctu) (x : BufferId) : (s.updCtu f).buffer x = s.buffer x := by cases x <;> rfl
@[simp] theorem State.buffer_updMmc (f : Mmc → Mmc) (x : BufferId) : (s.updMmc f).buffer x = s.buffer x := by cases x <;> rfl
@[simp] theorem State.buffer_updRce (f : Rce → Rce) (x : BufferId) : (s.updRce f).buffer x = s.buffer x := by cases x <;> rfl
@[simp] theorem State.buffer_updTfu (f : Tfu → Tfu) (x : BufferId) : (s.updTfu f).buffer x = s.buffer x := by cases x <;> rfl
@[simp] theorem State.buffer_updLsv (f : Lsv → Lsv) (x : BufferId) : (s.updLsv f).buffer x = s.buffer x := by cases x <;> rfl
@[simp] theorem State.buffer_updDrp (f : Drp → Drp) (x : BufferId) : (s.updDrp f).buffer x = s.buffer x := by cases x <;> rfl
@[simp] theorem State.buffer_updTmr (f : Tmr → Tmr) (x : BufferId) : (s.updTmr f).buffer x = s.buffer x := by cases x <;> rfl
@[simp] theorem State.buffer_updClp (f : Clp → Clp) (x : BufferId) : (s.updClp f).buffer x = s.buffer x := by cases x <;> rfl
@[simp] theorem State.desc_updCtu (f : Ctu → Ctu) (x : BufferId) : (s.updCtu f).desc x = s.desc x := by cases x <;> rfl
@[simp] theorem State.desc_updMmc (f : Mmc → Mmc) (x : BufferId) : (s.updMmc f).desc x = s.desc x := by cases x <;> rfl
@[simp] theorem State.desc_updRce (f : Rce → Rce) (x : BufferId) : (s.updRce f).desc x = s.desc x := by cases x <;> rfl
@[simp] theorem State.desc_updTfu (f : Tfu → Tfu) (x : BufferId) : (s.updTfu f).desc x = s.desc x := by cases x <;> rfl
@[simp] theorem State.desc_updLsv (f : Lsv → Lsv) (x : BufferId) : (s.updLsv f).desc x = s.desc x := by cases x <;> rfl
@[simp] theorem State.desc_updDrp (f : Drp → Drp) (x : BufferId) : (s.updDrp f).desc x = s.desc x := by cases x <;> rfl
@[simp] theorem State.desc_updTmr (f : Tmr → Tmr) (x : BufferId) : (s.updTmr f).desc x = s.desc x := by cases x <;> rfl
@[simp] theorem State.desc_updClp (f : Clp → Clp) (x : BufferId) : (s.updClp f).desc x = s.desc x := by cases x <;> rfl
@[simp] theorem State.bank_updSau (f : Sau → Sau) (k : BankId) : (s.updSau f).bank k = s.bank k := by cases k <;> rfl
@[simp] theorem State.bank_updCtu (f : Ctu → Ctu) (k : BankId) : (s.updCtu f).bank k = s.bank k := by cases k <;> rfl
@[simp] theorem State.bank_updRce (f : Rce → Rce) (k : BankId) : (s.updRce f).bank k = s.bank k := by cases k <;> rfl
@[simp] theorem State.bank_updTfu (f : Tfu → Tfu) (k : BankId) : (s.updTfu f).bank k = s.bank k := by cases k <;> rfl
@[simp] theorem State.bank_updLsv (f : Lsv → Lsv) (k : BankId) : (s.updLsv f).bank k = s.bank k := by cases k <;> rfl
@[simp] theorem State.bank_updDrp (f : Drp → Drp) (k : BankId) : (s.updDrp f).bank k = s.bank k := by cases k <;> rfl
@[simp] theorem State.bank_updTmr (f : Tmr → Tmr) (k : BankId) : (s.updTmr f).bank k = s.bank k := by cases k <;> rfl
@[simp] theorem State.bank_updClp (f : Clp → Clp) (k : BankId) : (s.updClp f).bank k = s.bank k := by cases k <;> rfl
@[simp] theorem State.entry_updSau (f : Sau → Sau) (k : BankId) (g : Nat) : (s.updSau f).entry k g = s.entry k g := by cases k <;> rfl
@[simp] theorem State.entry_updCtu (f : Ctu → Ctu) (k : BankId) (g : Nat) : (s.updCtu f).entry k g = s.entry k g := by cases k <;> rfl
@[simp] theorem State.entry_updRce (f : Rce → Rce) (k : BankId) (g : Nat) : (s.updRce f).entry k g = s.entry k g := by cases k <;> rfl
@[simp] theorem State.entry_updTfu (f : Tfu → Tfu) (k : BankId) (g : Nat) : (s.updTfu f).entry k g = s.entry k g := by cases k <;> rfl
@[simp] theorem State.entry_updLsv (f : Lsv → Lsv) (k : BankId) (g : Nat) : (s.updLsv f).entry k g = s.entry k g := by cases k <;> rfl
@[simp] theorem State.entry_updDrp (f : Drp → Drp) (k : BankId) (g : Nat) : (s.updDrp f).entry k g = s.entry k g := by cases k <;> rfl
@[simp] theorem State.entry_updTmr (f : Tmr → Tmr) (k : BankId) (g : Nat) : (s.updTmr f).entry k g = s.entry k g := by cases k <;> rfl
@[simp] theorem State.entry_updClp (f : Clp → Clp) (k : BankId) (g : Nat) : (s.updClp f).entry k g = s.entry k g := by cases k <;> rfl
@[simp] theorem State.running_updSau (f : Sau → Sau) : (s.updSau f).running = s.running := rfl
@[simp] theorem State.running_updCtu (f : Ctu → Ctu) : (s.updCtu f).running = s.running := rfl
@[simp] theorem State.running_updMmc (f : Mmc → Mmc) : (s.updMmc f).running = s.running := rfl
@[simp] theorem State.running_updRce (f : Rce → Rce) : (s.updRce f).running = s.running := rfl
@[simp] theorem State.running_updTfu (f : Tfu → Tfu) : (s.updTfu f).running = s.running := rfl
@[simp] theorem State.running_updDrp (f : Drp → Drp) : (s.updDrp f).running = s.running := rfl
@[simp] theorem State.running_updTmr (f : Tmr → Tmr) : (s.updTmr f).running = s.running := rfl
@[simp] theorem State.running_updClp (f : Clp → Clp) : (s.updClp f).running = s.running := rfl
@[simp] theorem State.actuators_updSau (f : Sau → Sau) : (s.updSau f).actuators = s.actuators := rfl
@[simp] theorem State.actuators_updCtu (f : Ctu → Ctu) : (s.updCtu f).actuators = s.actuators := rfl
@[simp] theorem State.actuators_updMmc (f : Mmc → Mmc) : (s.updMmc f).actuators = s.actuators := rfl
@[simp] theorem State.actuators_updRce (f : Rce → Rce) : (s.updRce f).actuators = s.actuators := rfl
@[simp] theorem State.actuators_updTfu (f : Tfu → Tfu) : (s.updTfu f).actuators = s.actuators := rfl
@[simp] theorem State.actuators_updLsv (f : Lsv → Lsv) : (s.updLsv f).actuators = s.actuators := rfl
@[simp] theorem State.actuators_updTmr (f : Tmr → Tmr) : (s.updTmr f).actuators = s.actuators := rfl
@[simp] theorem State.actuators_updClp (f : Clp → Clp) : (s.updClp f).actuators = s.actuators := rfl
@[simp] theorem State.enginePort_updSau (f : Sau → Sau) : (s.updSau f).enginePort = s.enginePort := rfl
@[simp] theorem State.enginePort_updCtu (f : Ctu → Ctu) : (s.updCtu f).enginePort = s.enginePort := rfl
@[simp] theorem State.enginePort_updRce (f : Rce → Rce) : (s.updRce f).enginePort = s.enginePort := rfl
@[simp] theorem State.enginePort_updTfu (f : Tfu → Tfu) : (s.updTfu f).enginePort = s.enginePort := rfl
@[simp] theorem State.enginePort_updLsv (f : Lsv → Lsv) : (s.updLsv f).enginePort = s.enginePort := rfl
@[simp] theorem State.enginePort_updDrp (f : Drp → Drp) : (s.updDrp f).enginePort = s.enginePort := rfl
@[simp] theorem State.enginePort_updTmr (f : Tmr → Tmr) : (s.updTmr f).enginePort = s.enginePort := rfl
@[simp] theorem State.enginePort_updClp (f : Clp → Clp) : (s.updClp f).enginePort = s.enginePort := rfl
@[simp] theorem State.openBuffer_updCtu (f : Ctu → Ctu) : (s.updCtu f).openBuffer = s.openBuffer := rfl
@[simp] theorem State.openBuffer_updMmc (f : Mmc → Mmc) : (s.updMmc f).openBuffer = s.openBuffer := rfl
@[simp] theorem State.openBuffer_updRce (f : Rce → Rce) : (s.updRce f).openBuffer = s.openBuffer := rfl
@[simp] theorem State.openBuffer_updTfu (f : Tfu → Tfu) : (s.updTfu f).openBuffer = s.openBuffer := rfl
@[simp] theorem State.openBuffer_updLsv (f : Lsv → Lsv) : (s.updLsv f).openBuffer = s.openBuffer := rfl
@[simp] theorem State.openBuffer_updDrp (f : Drp → Drp) : (s.updDrp f).openBuffer = s.openBuffer := rfl
@[simp] theorem State.openBuffer_updTmr (f : Tmr → Tmr) : (s.updTmr f).openBuffer = s.openBuffer := rfl
@[simp] theorem State.openBuffer_updClp (f : Clp → Clp) : (s.updClp f).openBuffer = s.openBuffer := rfl
@[simp] theorem State.freeBuffer_updCtu (f : Ctu → Ctu) : (s.updCtu f).freeBuffer = s.freeBuffer := rfl
@[simp] theorem State.freeBuffer_updMmc (f : Mmc → Mmc) : (s.updMmc f).freeBuffer = s.freeBuffer := rfl
@[simp] theorem State.freeBuffer_updRce (f : Rce → Rce) : (s.updRce f).freeBuffer = s.freeBuffer := rfl
@[simp] theorem State.freeBuffer_updTfu (f : Tfu → Tfu) : (s.updTfu f).freeBuffer = s.freeBuffer := rfl
@[simp] theorem State.freeBuffer_updLsv (f : Lsv → Lsv) : (s.updLsv f).freeBuffer = s.freeBuffer := rfl
@[simp] theorem State.freeBuffer_updDrp (f : Drp → Drp) : (s.updDrp f).freeBuffer = s.freeBuffer := rfl
@[simp] theorem State.freeBuffer_updTmr (f : Tmr → Tmr) : (s.updTmr f).freeBuffer = s.freeBuffer := rfl
@[simp] theorem State.freeBuffer_updClp (f : Clp → Clp) : (s.updClp f).freeBuffer = s.freeBuffer := rfl
@[simp] theorem State.oldestWaiting_updCtu (f : Ctu → Ctu) : (s.updCtu f).oldestWaiting = s.oldestWaiting := rfl
@[simp] theorem State.oldestWaiting_updMmc (f : Mmc → Mmc) : (s.updMmc f).oldestWaiting = s.oldestWaiting := rfl
@[simp] theorem State.oldestWaiting_updRce (f : Rce → Rce) : (s.updRce f).oldestWaiting = s.oldestWaiting := rfl
@[simp] theorem State.oldestWaiting_updTfu (f : Tfu → Tfu) : (s.updTfu f).oldestWaiting = s.oldestWaiting := rfl
@[simp] theorem State.oldestWaiting_updLsv (f : Lsv → Lsv) : (s.updLsv f).oldestWaiting = s.oldestWaiting := rfl
@[simp] theorem State.oldestWaiting_updDrp (f : Drp → Drp) : (s.updDrp f).oldestWaiting = s.oldestWaiting := rfl
@[simp] theorem State.oldestWaiting_updTmr (f : Tmr → Tmr) : (s.updTmr f).oldestWaiting = s.oldestWaiting := rfl
@[simp] theorem State.oldestWaiting_updClp (f : Clp → Clp) : (s.updClp f).oldestWaiting = s.oldestWaiting := rfl
@[simp] theorem State.openToTake_updCtu (f : Ctu → Ctu) : (s.updCtu f).openToTake = s.openToTake := rfl
@[simp] theorem State.openToTake_updMmc (f : Mmc → Mmc) : (s.updMmc f).openToTake = s.openToTake := rfl
@[simp] theorem State.openToTake_updRce (f : Rce → Rce) : (s.updRce f).openToTake = s.openToTake := rfl
@[simp] theorem State.openToTake_updTfu (f : Tfu → Tfu) : (s.updTfu f).openToTake = s.openToTake := rfl
@[simp] theorem State.openToTake_updLsv (f : Lsv → Lsv) : (s.updLsv f).openToTake = s.openToTake := rfl
@[simp] theorem State.openToTake_updDrp (f : Drp → Drp) : (s.updDrp f).openToTake = s.openToTake := rfl
@[simp] theorem State.openToTake_updTmr (f : Tmr → Tmr) : (s.updTmr f).openToTake = s.openToTake := rfl
@[simp] theorem State.openToTake_updClp (f : Clp → Clp) : (s.updClp f).openToTake = s.openToTake := rfl

@[simp] theorem State.buffer_updBuffer_same (x : BufferId) (f : SlopeBuffer → SlopeBuffer) :
    (s.updBuffer x f).buffer x = f (s.buffer x) := by cases x <;> rfl

theorem State.buffer_updBuffer_of_ne {x y : BufferId} (h : y ≠ x) (f : SlopeBuffer → SlopeBuffer) :
    (s.updBuffer x f).buffer y = s.buffer y := by cases x <;> cases y <;> first | rfl | exact absurd rfl h

@[simp] theorem State.desc_updDesc_same (x : BufferId) (f : Descriptor → Descriptor) :
    (s.updDesc x f).desc x = f (s.desc x) := by cases x <;> rfl

theorem State.desc_updDesc_of_ne {x y : BufferId} (h : y ≠ x) (f : Descriptor → Descriptor) :
    (s.updDesc x f).desc y = s.desc y := by cases x <;> cases y <;> first | rfl | exact absurd rfl h

theorem State.desc_updBuffer_of_ne {x y : BufferId} (h : y ≠ x) (f : SlopeBuffer → SlopeBuffer) :
    (s.updBuffer x f).desc y = s.desc y := by cases x <;> cases y <;> first | rfl | exact absurd rfl h

@[simp] theorem State.bank_updBank_same (k : BankId) (f : Bank → Bank) :
    (s.updBank k f).bank k = f (s.bank k) := by cases k <;> rfl

theorem State.bank_updBank_of_ne {k j : BankId} (h : j ≠ k) (f : Bank → Bank) :
    (s.updBank k f).bank j = s.bank j := by cases k <;> cases j <;> first | rfl | exact absurd rfl h

@[simp] theorem State.link_updLink_same (l : Link) (f : LinkState → LinkState) :
    (s.updLink l f).link l = f (s.link l) := by
  simp [State.link, State.updLink]

theorem State.link_updLink_of_ne {l k : Link} (h : k ≠ l) (f : LinkState → LinkState) :
    (s.updLink l f).link k = s.link k := by
  have : l.val ≠ k.val := fun e => h (Fin.ext e.symm)
  simp [State.link, State.updLink, Vector.getElem_set_ne, this]

end Sys2Proof.Machine
end

