-- ==== Sys2Proof/Laws/Tables.lean ====
section
/-! SUPPORT. What the fixed tables and the stacked DRAM's operations do: reading a table that was mapped or
written, and that every memory operation keeps the DRAM's canonical form. -/

namespace Sys2Proof.Machine

/-! ### Tables -/

@[simp] theorem mapTable_toList {n : Nat} {α β : Type} (f : Nat → α → β) (v : Vector α n) :
    (mapTable f v).toList = v.toList.mapIdx f := by
  simp [mapTable, Vector.toList]

theorem mapTable_getElem {n : Nat} {α β : Type} (f : Nat → α → β) (v : Vector α n) (i : Nat) (h : i < n) :
    (mapTable f v)[i] = f i v[i] := by
  simp [mapTable]

@[simp] theorem entryAt_mapTable {n : Nat} {α : Type} (f : Nat → α → α) (v : Vector α n) (i : Nat) (d : α)
    (h : i < n) : entryAt (mapTable f v) i d = f i (entryAt v i d) := by
  simp [entryAt, h]

theorem entryAt_of_ge {n : Nat} {α : Type} (v : Vector α n) (i : Nat) (d : α) (h : n ≤ i) :
    entryAt v i d = d := by
  have : v.toList[i]? = none := by simp [h]
  simp [entryAt, this]

theorem entryAt_writeFrom {n : Nat} {α : Type} (v : Vector α n) (first : Nat) (xs : List α) (i : Nat) (d : α)
    (h : i < n) :
    entryAt (writeFrom v first xs) i d =
      if first ≤ i then (xs[i - first]?).getD (entryAt v i d) else entryAt v i d := by
  simp [writeFrom, h]

@[simp] theorem State.link_updLinks (s : State) (f : LinkState → LinkState) (l : Link) :
    (s.updLinks f).link l = f (s.link l) := by
  simp [State.link, State.updLinks, mapTable_getElem]

/-! ### The DRAM keeps its canonical form (R63, log entry 6) -/

theorem Memory.cellsFrom_ge (base : Nat) (bs : List Byte) :
    ∀ c ∈ Memory.cellsFrom base bs, base ≤ c.1 ∧ c.1 < base + bs.length := by
  induction bs generalizing base with
  | nil => simp [Memory.cellsFrom]
  | cons b bs ih =>
    intro c hc
    simp only [Memory.cellsFrom, List.mem_cons] at hc
    rcases hc with rfl | hc
    · simp
    · have := ih (base + 1) c hc
      simp only [List.length_cons]
      omega

theorem Memory.wf_cellsFrom (base : Nat) (bs : List Byte) : Memory.wf (Memory.cellsFrom base bs) := by
  induction bs generalizing base with
  | nil => exact List.Pairwise.nil
  | cons b bs ih =>
    refine List.Pairwise.cons (fun c hc => ?_) (ih (base + 1))
    have := Memory.cellsFrom_ge (base + 1) bs c hc
    simp only
    omega

/-- Writing bytes keeps the canonical form. -/
theorem Memory.wf_writeBytes {m : List Host.Cell} (h : Memory.wf m) (base : Nat) (bs : List Byte) :
    Memory.wf (Memory.writeBytes m base bs) := by
  unfold Memory.writeBytes Memory.wf
  rw [List.pairwise_append, List.pairwise_append]
  refine ⟨⟨h.filter _, Memory.wf_cellsFrom base bs, ?_⟩, h.filter _, ?_⟩
  · intro a ha b hb
    have h1 := (List.mem_filter.mp ha).2
    have h2 := Memory.cellsFrom_ge base bs b hb
    simp only [decide_eq_true_eq] at h1
    omega
  · intro a ha b hb
    have h2 := (List.mem_filter.mp hb).2
    simp only [decide_eq_true_eq] at h2
    rcases List.mem_append.mp ha with ha | ha
    · have h1 := (List.mem_filter.mp ha).2
      simp only [decide_eq_true_eq] at h1
      omega
    · have h1 := Memory.cellsFrom_ge base bs a ha
      omega

/-- Writing a burst keeps the canonical form. -/
theorem Memory.wf_writeBurst {m : List Host.Cell} (h : Memory.wf m) (place : Nat) (ws : List Word) :
    Memory.wf (Memory.writeBurst m place ws) := Memory.wf_writeBytes h _ _

/-- The reset memory lists nothing. -/
theorem Memory.wf_reset : Memory.wf State.reset.mmc.dram := List.Pairwise.nil

@[simp] theorem bytesOf_length (ws : List Word) : (bytesOf ws).length = 2 * ws.length := by
  induction ws with
  | nil => rfl
  | cons w ws ih =>
    simp only [bytesOf, List.map_cons, List.flatten_cons, List.length_append] at ih ⊢
    simp only [wordBytes, List.length_cons, List.length_nil] at ih ⊢
    omega

@[simp] theorem burstWords_length (ws : List Word) : (burstWords ws).length = 256 := by
  rw [burstWords, List.length_take, List.length_append, List.length_replicate]
  omega

end Sys2Proof.Machine
end

