-- ==== Sys2Proof/Laws/Control.lean ====
section
/-! SUPPORT. What the control link's shared operations do, each said once: a notice, a reply, the transmit
arbiter, the requests that wait, a command. -/

namespace Sys2Proof.Machine

/-! ### Notices (R171) -/

/-- A notice touches the notice list alone. -/
theorem State.raise_eq (s : State) (p : NoticePayload) :
    s.raise p = { s with clp := { s.clp with
      notices := if inMask s.clp.mask p.kind then addNotice p s.clp.notices else s.clp.notices } } := by
  unfold State.raise State.updClp
  split <;> simp_all

/-- The kinds on the list after a notice joined it: as before, or with its kind at the tail. -/
theorem addNotice_kinds (p : NoticePayload) (ns : List Notice) :
    (addNotice p ns).map (fun n => n.payload.kind) =
      if p.kind ∈ ns.map (fun n => n.payload.kind) then ns.map (fun n => n.payload.kind)
      else ns.map (fun n => n.payload.kind) ++ [p.kind] := by
  induction ns with
  | nil => rfl
  | cons n ns ih =>
    simp only [addNotice]
    split
    · rename_i h
      simp [h]
    · rename_i h
      have h' : ¬ p.kind = n.payload.kind := fun e => h e.symm
      rw [List.map_cons, ih, List.map_cons]
      simp only [List.mem_cons, h', false_or]
      split <;> simp

/-! ### Replies (R169, R170) -/

theorem map_fillPending_of_not_mem (r : Reply) {q : List ReplyEntry} (h : ReplyEntry.pending ∉ q) :
    q.map (fillPending r) = q := by
  induction q with
  | nil => rfl
  | cons e q ih =>
    simp only [List.mem_cons, not_or] at h
    have he : fillPending r e = e := by
      cases e with
      | pending => exact absurd rfl h.1
      | ready x => rfl
    rw [List.map_cons, he, ih h.2]

theorem pending_not_mem_map_fillPending (r : Reply) (q : List ReplyEntry) :
    ReplyEntry.pending ∉ q.map (fillPending r) := by
  intro h
  obtain ⟨e, -, he⟩ := List.mem_map.mp h
  cases e <;> simp [fillPending] at he

/-- Completion touches the reply queue and the request in execution alone. -/
theorem State.complete_eq (s : State) (result : Result) (payload : List Word) :
    s.complete result payload = { s with clp := { s.clp with
      inExec := none
      replies := match s.clp.inExec with
        | some e => s.clp.replies.map (fillPending ⟨e.request.code, e.request.tag, result, payload⟩)
        | none => s.clp.replies } } := by
  cases h : s.clp.inExec <;> simp [State.complete, State.updClp, Clp.answer, h]

theorem State.setJob_eq (s : State) (job : Job) :
    s.setJob job = { s with clp := { s.clp with inExec := s.clp.inExec.map fun e => { e with job := job } } } :=
  rfl

/-! ### The transmit arbiter (R173) -/

/-- A busy transmitter takes nothing. -/
theorem State.transmit_of_sending {s : State} {m : Sending} (h : s.clp.sending = some m) : s.transmit = s := by
  simp [State.transmit, State.updClp, h]

/-- With nothing to send the transmitter sends IDLE. -/
theorem State.transmit_of_nothing {s : State} (hr : s.clp.replies = []) (hn : s.clp.notices = []) :
    s.transmit = s := by
  simp [State.transmit, State.updClp, Clp.chooseNext, hr, hn]

/-- The transmit arbiter touches what is being sent, the reply queue and the notice list alone. -/
theorem State.transmit_frame (s : State) :
    s.transmit = { s with clp := { s.clp with
      sending := s.transmit.clp.sending
      replies := s.transmit.clp.replies
      notices := s.transmit.clp.notices } } := by
  simp only [State.transmit, State.updClp]
  split
  · unfold Clp.chooseNext
    split <;> rfl
  · rfl

/-! ### Requests that start (R169) -/

/-- Taking a request into execution touches the control link port's queues alone. -/
theorem State.start_eq (s : State) (r : Request) (rest : List Request) :
    s.start r rest = { s with clp := { s.clp with
      requests := rest, inExec := some ⟨r, .now⟩, replies := s.clp.replies ++ [.pending] } } := rfl

/-- With no request waiting nothing is served. -/
theorem State.serveAll_of_nil {s : State} (h : s.clp.requests = []) : s.serveAll = s := by
  simp [State.serveAll, h, State.serve]

/-- A head that may not start stays where it is. -/
theorem State.serveHead_of_not_mayStart {s : State} (h : s.mayStart = false) : s.serveHead = s := by
  unfold State.serveHead
  split <;> simp [h]

/-- Where the head may not start nothing is served. -/
theorem State.serve_of_not_mayStart {s : State} (h : s.mayStart = false) (n : Nat) : State.serve n s = s := by
  induction n with
  | zero => rfl
  | succ n ih => rw [State.serve, State.serveHead_of_not_mayStart h, ih]

theorem State.serveAll_of_not_mayStart {s : State} (h : s.mayStart = false) : s.serveAll = s :=
  State.serve_of_not_mayStart h _

/-- A request in execution or a reset in hand keeps the head where it is. -/
theorem State.mayStart_eq_false {s : State} (h : s.clp.inExec ≠ none ∨ s.clp.resetInHand = true) :
    s.mayStart = false := by
  rcases h with h | h
  · cases hx : s.clp.inExec <;> simp_all [State.mayStart]
  · simp [State.mayStart, h]

/-- The transmit arbiter keeps what decides whether a request may start, but for the room in the reply
queue. -/
theorem State.transmit_requests (s : State) : s.transmit.clp.requests = s.clp.requests := by
  rw [State.transmit_frame]
theorem State.transmit_inExec (s : State) : s.transmit.clp.inExec = s.clp.inExec := by
  rw [State.transmit_frame]
theorem State.transmit_resetInHand (s : State) : s.transmit.clp.resetInHand = s.clp.resetInHand := by
  rw [State.transmit_frame]

/-- With no request waiting, what follows an event is the transmit arbiter's choice. -/
theorem State.settle_of_nil {s : State} (h : s.clp.requests = []) : s.settle = s.transmit := by
  unfold State.settle
  rw [State.serveAll_of_nil h, State.serveAll_of_nil]
  rw [State.transmit_requests, h]

/-- So it is while a request is in execution or a reset is in hand. -/
theorem State.settle_of_busy {s : State} (h : s.clp.inExec ≠ none ∨ s.clp.resetInHand = true) :
    s.settle = s.transmit := by
  unfold State.settle
  rw [State.serveAll_of_not_mayStart (State.mayStart_eq_false h), State.serveAll_of_not_mayStart]
  apply State.mayStart_eq_false
  rw [State.transmit_inExec, State.transmit_resetInHand]
  exact h

/-! ### Commands -/

/-- A command that finds no hard reset in force. -/
theorem act_of_not_inReset {s : State} (h : s.inReset = false) (f : State → State) :
    act f s = .next (f s).settle := by
  simp [act, h]

/-- While a hard reset lasts a command changes nothing (R62, R173, R178). -/
theorem act_of_inReset {s : State} (h : s.inReset = true) (f : State → State) : act f s = .next s := by
  simp [act, h]

/-- A request that completes as it starts has its reply at the tail of the reply queue. -/
theorem State.complete_started {s : State} {payload : List Word} (h : s.Ready payload) (code : Nat) (tag : Word)
    (job : Job) (result : Result) (ws : List Word) :
    (s.started code tag payload job).complete result ws = s.answered code tag result ws := by
  obtain ⟨-, -, hx, -, -, hq, -⟩ := h
  rw [State.complete_eq]
  simp [State.started, State.answered, hx, map_fillPending_of_not_mem _ hq, fillPending]

/-- The same after a change of the other blocks that leaves the control link port as it is. -/
theorem State.complete_of_clp {s t : State} {payload : List Word} (h : s.Ready payload) {code : Nat} {tag : Word}
    {job : Job} (ht : t.clp = (s.started code tag payload job).clp) (result : Result) (ws : List Word) :
    t.complete result ws = { t with clp := (s.answered code tag result ws).clp } := by
  obtain ⟨-, -, hx, -, -, hq, -⟩ := h
  rw [State.complete_eq]
  simp [ht, State.started, State.answered, hx, map_fillPending_of_not_mem _ hq, fillPending]

end Sys2Proof.Machine
end

