-- ==== Sys2Proof/Laws/Frames.lean ====
section
/-! SUPPORT. What the shared operations of the cycle leave alone. `SameSurroundings s t` says that between `s`
and `t` the sensor links, the drive ring port, the DRAM's contents, both banks, the shadow tables, the
telemetry configuration, the control link's receiver, request queue, mask and transmitter, the lanes sent
and the queue of commands are the same; every operation on a cycle keeps it, and the operations compose. -/

namespace Sys2Proof.Machine

/-- Everything around a cycle is the same in two states. -/
structure SameSurroundings (s t : State) : Prop where
  pending : t.pending = s.pending
  inReset : t.inReset = s.inReset
  links : t.links = s.links
  drp : t.drp = s.drp
  ringOut : t.ringOut = s.ringOut
  controlOut : t.controlOut = s.controlOut
  drawn : t.drawn = s.drawn
  dram : t.mmc.dram = s.mmc.dram
  weak : t.mmc.weak = s.mmc.weak
  bank0 : t.mmc.bank0 = s.mmc.bank0
  bank1 : t.mmc.bank1 = s.mmc.bank1
  shadow : t.tfu.shadow = s.tfu.shadow
  shadowPairs : t.tfu.shadowPairs = s.tfu.shadowPairs
  config : t.tmr.config = s.tmr.config
  receiver : t.clp.receiver = s.clp.receiver
  line : t.clp.line = s.clp.line
  buffer : t.clp.buffer = s.clp.buffer
  requests : t.clp.requests = s.clp.requests
  mask : t.clp.mask = s.clp.mask
  sending : t.clp.sending = s.clp.sending
  resetInHand : t.clp.resetInHand = s.clp.resetInHand

namespace SameSurroundings

theorem refl (s : State) : SameSurroundings s s := by constructor <;> rfl

theorem trans {s t u : State} (h : SameSurroundings s t) (k : SameSurroundings t u) : SameSurroundings s u := by
  cases h
  cases k
  constructor <;> simp only [*]

theorem ifElse {s a b : State} {p : Prop} [Decidable p] (ha : SameSurroundings s a)
    (hb : SameSurroundings s b) : SameSurroundings s (if p then a else b) := by
  split
  · exact ha
  · exact hb

theorem raise (s : State) (p : NoticePayload) : SameSurroundings s (s.raise p) := by
  rw [State.raise_eq]; constructor <;> rfl

theorem complete (s : State) (r : Result) (ws : List Word) : SameSurroundings s (s.complete r ws) := by
  rw [State.complete_eq]; constructor <;> rfl

theorem setJob (s : State) (j : Job) : SameSurroundings s (s.setJob j) := by constructor <;> rfl
theorem updSau (s : State) (f : Sau → Sau) : SameSurroundings s (s.updSau f) := by constructor <;> rfl
theorem updCtu (s : State) (f : Ctu → Ctu) : SameSurroundings s (s.updCtu f) := by constructor <;> rfl
theorem updRce (s : State) (f : Rce → Rce) : SameSurroundings s (s.updRce f) := by constructor <;> rfl
theorem updLsv (s : State) (f : Lsv → Lsv) : SameSurroundings s (s.updLsv f) := by constructor <;> rfl
theorem updCounts (s : State) (f : CycleCounts → CycleCounts) : SameSurroundings s (s.updCounts f) := by
  constructor <;> rfl
theorem updBuffer (s : State) (x : BufferId) (f : SlopeBuffer → SlopeBuffer) :
    SameSurroundings s (s.updBuffer x f) := by constructor <;> rfl
theorem updDesc (s : State) (x : BufferId) (f : Descriptor → Descriptor) :
    SameSurroundings s (s.updDesc x f) := by constructor <;> rfl

/-! ### The recorder -/

theorem presentRecord (s : State) : SameSurroundings s s.presentRecord := by
  unfold State.presentRecord
  split
  · split
    · constructor <;> rfl
    · exact refl s
  · exact refl s

theorem freeIfReleased (s : State) (x : BufferId) : SameSurroundings s (s.freeIfReleased x) := by
  unfold State.freeIfReleased
  split
  · exact updDesc s x _
  · exact refl s

theorem releaseHold (s : State) : SameSurroundings s s.releaseHold := by
  unfold State.releaseHold
  split
  · exact trans (by constructor <;> rfl) (freeIfReleased _ _)
  · exact refl s

theorem joinUnread (s : State) : SameSurroundings s s.joinUnread := by
  unfold State.joinUnread
  split
  · refine ifElse (trans ?_ (raise _ _)) ?_ <;> (constructor <;> rfl)
  · exact refl s

theorem recordBurstEnded (s : State) (row : Nat) : SameSurroundings s (s.recordBurstEnded row) := by
  unfold State.recordBurstEnded
  split
  · dsimp only
    have h : ∀ t : State, SameSurroundings s t → ∀ p : Prop, [Decidable p] →
        SameSurroundings s (if p then t.joinUnread else t) := by
      intro t ht p _
      split
      · exact trans ht (joinUnread t)
      · exact ht
    refine h _ ?_ _
    split
    · exact releaseHold s
    · exact refl s
  · exact refl s

theorem cutRecord (s : State) : SameSurroundings s s.cutRecord := by
  unfold State.cutRecord
  split
  · exact trans (by constructor <;> rfl) (freeIfReleased _ _)
  · exact refl s

theorem startRecord (s : State) (x : BufferId) (r : CycleReport) : SameSurroundings s (s.startRecord x r) := by
  unfold State.startRecord
  split
  · exact trans (by constructor <;> rfl) (presentRecord _)
  · exact refl s

theorem recordDue (s : State) (x : BufferId) (r : CycleReport) : SameSurroundings s (s.recordDue x r) := by
  unfold State.recordDue
  split
  · dsimp only
    split
    · constructor <;> rfl
    · split
      · exact startRecord s x r
      · split
        · constructor <;> rfl
        · split
          · constructor <;> rfl
          · split
            · constructor <;> rfl
            · exact trans (by constructor <;> rfl) (startRecord _ x r)
  · exact refl s

theorem recordOutcome (s : State) (x : BufferId) (r : CycleReport) :
    SameSurroundings s (s.recordOutcome x r) := by
  unfold State.recordOutcome
  split
  · split
    · constructor <;> rfl
    · exact trans (by constructor <;> rfl) (recordDue _ x r)
  · exact refl s

theorem freeze (s : State) (c : TripCause) (f : Word) : SameSurroundings s (s.freeze c f) := by
  unfold State.freeze
  split
  · split
    · exact trans (by constructor <;> rfl) (raise _ _)
    · exact refl s
  · exact refl s

/-! ### The supervisor -/

theorem trip (s : State) (c : TripCause) (f : Word) (v l : Nat) : SameSurroundings s (s.trip c f v l) :=
  trans (updLsv s _) (raise _ _)

theorem superviseSkip (s : State) (tag : Word) (c : SkipCause) : SameSurroundings s (s.superviseSkip tag c) := by
  unfold State.superviseSkip
  dsimp only
  split
  · exact trans (trans (updLsv s _) (raise _ _)) (trip _ _ _ _ _)
  · exact trans (updLsv s _) (raise _ _)

theorem giveSkip (s : State) (x : BufferId) (c : SkipCause) (r : CycleReport) :
    SameSurroundings s (s.giveSkip x c r) := by
  unfold State.giveSkip
  dsimp only
  have h := trans (trans (updDesc s x fun d => { d with outcome := some .skipped, skip := some c })
    (superviseSkip _ (s.desc x).tag c)) (recordOutcome _ x r)
  split
  · exact trans h (freeze _ _ _)
  · exact h

theorem superviseCompletion (s : State) (tag : Word) (n m : Nat) :
    SameSurroundings s (s.superviseCompletion tag n m) := by
  unfold State.superviseCompletion
  dsimp only
  split
  · exact trans (updLsv s _) (trip _ _ _ _ _)
  · exact updLsv s _

theorem superviseAbandon (s : State) (n : Nat) : SameSurroundings s (s.superviseAbandon n) :=
  updCounts s _

/-! ### The filter -/

theorem applyAt (s : State) (e : ApplyEvent) : SameSurroundings s (s.applyAt e) :=
  trans (by constructor <;> rfl) (raise _ _)

theorem filterAttach (s : State) (tag : Word) : SameSurroundings s (s.filterAttach tag) := by
  unfold State.filterAttach
  split
  · split
    · constructor <;> rfl
    · exact applyAt s _
  · exact refl s

theorem makePreset (s : State) (first : Nat) (values : List Word) :
    SameSurroundings s (s.makePreset first values) := trans (by constructor <;> rfl) (complete _ _ _)

/-! ### The engine -/

theorem presentRow (s : State) : SameSurroundings s s.presentRow := by
  unfold State.presentRow
  split
  · split
    · constructor <;> rfl
    · exact refl s
  · exact refl s

theorem reportIdle (s : State) : SameSurroundings s s.reportIdle := by
  unfold State.reportIdle
  split
  · split
    · exact trans (updLsv s _) (complete _ _ _)
    · exact refl s
  · exact refl s

theorem engineLetsGo (s : State) : SameSurroundings s s.engineLetsGo := by
  unfold State.engineLetsGo
  dsimp only
  split
  · split
    · exact trans (trans (updRce s _) (updDesc _ _ _)) (freeIfReleased _ _)
    · exact updRce s _
  · exact updRce s _

theorem formResiduals (s : State) : SameSurroundings s s.formResiduals := by constructor <;> rfl

theorem takeBlocks (x : BufferId) (gs : List Nat) (s : State) : SameSurroundings s (State.takeBlocks x gs s) := by
  induction gs generalizing s with
  | nil =>
    unfold State.takeBlocks
    dsimp only
    split
    · exact trans (updDesc s x _) (updRce _ _)
    · exact trans (updDesc s x _) (formResiduals _)
  | cons g rest ih =>
    unfold State.takeBlocks
    exact ifElse (trans (trans (updDesc s x _) (updRce _ _)) (presentRow _)) (trans (updCounts s _) (ih _))

theorem continueCycle (s : State) : SameSurroundings s s.continueCycle := by
  unfold State.continueCycle
  split
  · exact takeBlocks _ _ s
  · exact refl s

theorem makeSwap (s : State) (tag : Option Word) : SameSurroundings s (s.makeSwap tag) := by
  unfold State.makeSwap
  split
  · exact trans (by constructor <;> rfl) (raise _ _)
  · exact refl s

theorem beginCycle (s : State) (x : BufferId) : SameSurroundings s (s.beginCycle x) := by
  unfold State.beginCycle
  exact trans (trans (trans (trans (makeSwap s _) (updRce _ _)) (filterAttach _ _)) (updRce _ _)) (updDesc _ x _)

theorem attach (s : State) (x : BufferId) : SameSurroundings s (s.attach x) :=
  trans (beginCycle s x) (continueCycle _)

theorem takeOffer (s : State) (x : BufferId) : SameSurroundings s (s.takeOffer x) :=
  trans (by constructor <;> rfl) (engineLetsGo _)

theorem attachOnIdle (s : State) : SameSurroundings s s.attachOnIdle := by
  unfold State.attachOnIdle
  split
  · exact attach s _
  · exact refl s

theorem offer (s : State) : SameSurroundings s s.offer := by
  unfold State.offer
  split
  · exact trans (takeOffer s _) (attachOnIdle _)
  · exact refl s

theorem enterIdle (s : State) : SameSurroundings s s.enterIdle :=
  trans (trans (reportIdle s) (attachOnIdle _)) (offer _)

theorem attachNow (s : State) (x : BufferId) : SameSurroundings s (s.attachNow x) :=
  trans (attach s x) (offer _)

theorem engineStops (s : State) : SameSurroundings s s.engineStops := by
  unfold State.engineStops
  dsimp only
  split
  · exact trans (by constructor <;> rfl) (updRce s.dropEngineBurst _)
  · exact trans (by constructor <;> rfl) (engineLetsGo s.dropEngineBurst)

theorem abandon (s : State) : SameSurroundings s s.abandon := by
  unfold State.abandon
  split
  · exact refl s
  · exact refl s
  · exact engineLetsGo s
  · exact engineLetsGo s
  · exact engineStops s

theorem retire (s : State) (x : BufferId) : SameSurroundings s (s.retire x) := by
  unfold State.retire
  split
  · exact updDesc s x _
  · exact refl s

theorem memorySkip (s : State) (x : BufferId) : SameSurroundings s (s.memorySkip x) := by
  unfold State.memorySkip
  dsimp only
  have h := trans (trans (trans (giveSkip s x .memory (s.skipReport x .memory)) (updDesc _ x fun d =>
    { d with ready := [] })) (retire _ x)) (engineStops _)
  split
  · exact trans h (enterIdle _)
  · exact h

theorem addRow (s : State) (x : BufferId) (g row : Nat) (ws : List Word) :
    SameSurroundings s (s.addRow x g row ws) := by
  unfold State.addRow
  dsimp only
  split
  · exact trans (trans (trans (updRce s _) (updRce _ _)) (continueCycle _)) (offer _)
  · exact updRce s _

/-! ### Assembly -/

theorem markClosed (s : State) (x : BufferId) (c : ClosureCause) : SameSurroundings s (s.markClosed x c) := by
  unfold State.markClosed
  exact trans (trans (trans (updDesc s x _) (updSau _ _)) (updCtu _ _)) (updCounts _ _)

theorem skipMissing (s : State) (x : BufferId) : SameSurroundings s (s.skipMissing x) := by
  unfold State.skipMissing
  dsimp only
  have h := trans (giveSkip s x .missing (s.skipReport x .missing)) (retire _ x)
  split
  · split
    · exact trans (trans h (abandon _)) (enterIdle _)
    · exact trans h (abandon _)
  · exact trans h (freeIfReleased _ x)

theorem handOn (s : State) (x : BufferId) : SameSurroundings s (s.handOn x) := by
  unfold State.handOn
  split
  · exact trans (attachOnIdle s) (offer _)
  · split
    · exact trans (continueCycle s) (offer _)
    · exact refl s

theorem closeBuffer (s : State) (x : BufferId) (c : ClosureCause) : SameSurroundings s (s.closeBuffer x c) := by
  unfold State.closeBuffer
  dsimp only
  have h := markClosed s x c
  split
  · exact trans (trans h (retire _ x)) (freeIfReleased _ x)
  · split
    · exact trans h (skipMissing _ x)
    · exact trans h (handOn _ x)

theorem evaluateFinishing (s : State) (x : BufferId) : SameSurroundings s (s.evaluateFinishing x) := by
  unfold State.evaluateFinishing
  split
  · exact closeBuffer s x _
  · exact refl s

theorem takeExpiry (s : State) : SameSurroundings s s.takeExpiry := by
  unfold State.takeExpiry
  split
  · exact updSau s _
  · split
    · exact closeBuffer s _ _
    · exact refl s

theorem openWith (s : State) (x : BufferId) (tag : Word) : SameSurroundings s (s.openWith x tag) := by
  unfold State.openWith
  dsimp only
  have h : SameSurroundings s ((((s.updDesc x fun _ =>
      { Descriptor.freed tag s.ctu.timebase 0 with state := .opened }).updSau fun a =>
        { a with lastOpened := x, closeOrder := a.closeOrder.filter (· != x) }).updCtu fun c =>
          { c with deadlineAt := some (c.timebase + microseconds c.deadline) }).updCounts fun c =>
            { c with opened := c.opened + 1 }) :=
    trans (trans (trans (updDesc s x _) (updSau _ _)) (updCtu _ _)) (updCounts _ _)
  split
  · exact trans h (attachNow _ x)
  · exact h

theorem beginCopy (s : State) (l : Link) (x : BufferId) (ws : List Word) :
    SameSurroundings s (s.beginCopy l x ws) := updSau s _

theorem storeBlock (s : State) (c : Copy) (ws : List Word) : SameSurroundings s (s.storeBlock c ws) :=
  updBuffer s c.buffer _

/-! ### Ticks -/

theorem tick (s : State) : SameSurroundings s s.tick := by
  unfold State.tick
  split
  · split
    · exact updCounts s _
    · split
      · exact attachNow s _
      · exact updCounts s _
  · exact refl s

theorem deadlineExpires (s : State) : SameSurroundings s s.deadlineExpires :=
  trans (updCtu s _) (takeExpiry _)

theorem paceExpires (s : State) (p : Time) : SameSurroundings s (s.paceExpires p) :=
  trans (updCtu s _) (tick _)

end SameSurroundings

end Sys2Proof.Machine
end

