-- ==== Sys2Proof/Laws/Serve.lean ====
section
/-! SUPPORT. What carrying out a request leaves alone (the request queue), how the waiting requests are served
one after another, and a request that arrives where it may start. -/

namespace Sys2Proof.Machine

open SameSurroundings

namespace SameSurroundings

/-! ### Requests keep the request queue -/

theorem presentHost_requests (s : State) : s.presentHost.clp.requests = s.clp.requests := by
  unfold State.presentHost
  split <;> rfl

theorem transfer_requests (s : State) (bs : List Burst) (k : TransferKind) :
    (s.transfer bs k).clp.requests = s.clp.requests := presentHost_requests _

theorem stopRecorder_requests (s : State) : s.stopRecorder.clp.requests = s.clp.requests := by
  unfold State.stopRecorder
  split
  · split
    · exact (cutRecord s).requests
    · rfl
  · rfl

theorem stopFilter_requests (s : State) : s.stopFilter.clp.requests = s.clp.requests := by
  unfold State.stopFilter
  dsimp only
  split
  · exact (applyAt _ _).requests
  · rfl

theorem stopAssembly_requests (s : State) : s.stopAssembly.clp.requests = s.clp.requests := by
  unfold State.stopAssembly
  dsimp only
  split <;> rfl

theorem enterStopped_requests (s : State) : s.enterStopped.clp.requests = s.clp.requests := by
  unfold State.enterStopped
  dsimp only
  rw [(reportIdle _).requests, State.updDrp_clp, (makeSwap _ _).requests, stopFilter_requests,
    (abandon _).requests, State.updCtu_clp, stopAssembly_requests, stopRecorder_requests]
  rfl

theorem applyTiming_requests (s : State) (x : TimingSettings) :
    (s.applyTiming x).clp.requests = s.clp.requests := by
  unfold State.applyTiming
  dsimp only
  split
  · exact (trans (attachOnIdle _) (offer _)).requests
  · rfl

theorem leftRing_requests (s : State) : s.leftRing.clp.requests = s.clp.requests := (raise _ _).requests

theorem answer_requests (c : Clp) (r : Result) (ws : List Word) : (c.answer r ws).requests = c.requests := by
  unfold Clp.answer
  split <;> rfl

theorem makePreset_requests (s : State) (first : Nat) (values : List Word) :
    (s.makePreset first values).clp.requests = s.clp.requests := (makePreset s first values).requests

theorem configure_requests (s : State) (c : TelemetryConfig) : (s.configure c).clp.requests = s.clp.requests :=
  (cutRecord s).requests

theorem enableStore_requests (s : State) (g : Geometry) : (s.enableStore g).clp.requests = s.clp.requests :=
  (cutRecord s).requests

theorem readRecord_requests (s : State) (c : TelemetryConfig) (g : Geometry) (slot start count : Nat) :
    (s.readRecord c g slot start count).clp.requests = s.clp.requests := transfer_requests _ _ _

theorem complete_requests (s : State) (r : Result) (ws : List Word) :
    (s.complete r ws).clp.requests = s.clp.requests := (complete s r ws).requests

end SameSurroundings

/-- Carrying out a request leaves the request queue as it is. -/
theorem State.carryOut_requests (code : Nat) (payload : List Word) (s : State) :
    (State.carryOut code payload s).clp.requests = s.clp.requests := by
  unfold State.carryOut
  split <;>
  try simp only [State.identify, State.readStatus, State.readCounters, State.clearCounters, State.setNotices,
    State.requestReset, State.setSensor, State.readLinkStatus, State.readFrameRecords, State.setTiming,
    State.setSlice, State.setLoop, State.setTrip, State.writeDirectory, State.setBankShift, State.writeMatrix,
    State.readMatrix, State.swapBank, State.cancelSwap, State.writeActuators, State.writePairs,
    State.applyParameters, State.cancelApply, State.presetCommands, State.readActuators, State.ringJoin,
    State.ringLeave, State.ringTransmit, State.setTelemetry, State.telemetryEnable, State.readTelemetry,
    State.releaseTelemetry]
  all_goals (repeat' split)
  all_goals
    first
    | rfl
    | simp [complete_requests, transfer_requests, enterStopped_requests, applyTiming_requests,
        leftRing_requests, configure_requests, enableStore_requests, readRecord_requests,
        makePreset_requests, State.enterRunning, State.clearAll, State.setJob_eq,
        answer_requests]

/-- The requests that wait are served in order: where the head may start, it is carried out and the others
follow (R169). -/
theorem State.serveAll_of_cons {s : State} {r : Request} {rest : List Request} (h : s.clp.requests = r :: rest)
    (hm : s.mayStart = true) : s.serveAll = (State.carryOut r.code r.payload (s.start r rest)).serveAll := by
  have hq : (State.carryOut r.code r.payload (s.start r rest)).clp.requests = rest := by
    rw [State.carryOut_requests, State.start_eq]
  unfold State.serveAll
  rw [hq, h, List.length_cons, State.serve]
  simp only [State.serveHead, h, hm, if_true]

/-- So is what follows an event. -/
theorem State.settle_of_cons {s : State} {r : Request} {rest : List Request} (h : s.clp.requests = r :: rest)
    (hm : s.mayStart = true) : s.settle = (State.carryOut r.code r.payload (s.start r rest)).settle := by
  unfold State.settle
  rw [State.serveAll_of_cons h hm]

/-- A request that arrives where it may start is carried out by its block (R169, R178). -/
theorem request_of_ready {s : State} {payload : List Word} (h : s.Ready payload) (code : Nat) (tag : Word) :
    request code tag payload s = .next (State.carryOut code payload (s.started code tag payload .now)).transmit := by
  obtain ⟨hr, hq, hx, hh, hl, -, hp⟩ := h
  unfold request
  rw [act_of_not_inReset hr, if_pos hp]
  have ht : s.clp.takeRequest ⟨code, tag, payload⟩ = { s.clp with requests := [⟨code, tag, payload⟩] } := by
    simp [Clp.takeRequest, hq]
  rw [State.settle_of_cons (r := ⟨code, tag, payload⟩) (rest := []) (by simp [State.updClp, ht])
    (by simp [State.mayStart, State.updClp, ht, hx, hh, hl])]
  have hs : (s.updClp (·.takeRequest ⟨code, tag, payload⟩)).start ⟨code, tag, payload⟩ [] =
      s.started code tag payload .now := by
    simp [State.start_eq, State.started, State.updClp, ht, hq]
  rw [hs, State.settle_of_nil]
  rw [State.carryOut_requests]
  exact hq

end Sys2Proof.Machine
end

