-- ==== Sys2Proof/Tests/Slice0.lean ====
section
/-! SUPPORT. Tests of the commands against the manual's worked numbers, the refusals of `wellFormed`, and for
each statement with premises a state and operands that meet them. -/

open Sys2Proof Sys2Proof.Machine

set_option Elab.async false

/-! ### Well-formed commands -/

/-- 2,049 payload words are more than a message holds (R166). -/
theorem test_wellFormed_refuses_a_long_payload :
    (Instr.writeMatrix 1 (List.replicate 2049 0)).wellFormed = false := by decide +kernel

/-- Code 5 names RESET and 256 does not fit the eight bits of a code (R180, R181). -/
theorem test_wellFormed_refuses_a_known_code :
    (Instr.unknownRequest 5 1 []).wellFormed = false ∧ (Instr.unknownRequest 256 1 []).wellFormed = false ∧
      (Instr.unknownRequest 32 1 []).wellFormed = true := by decide

/-- The table gives no row any bits: no word spells a command, and nothing joins the queue. -/
theorem test_no_word_spells_a_command :
    decodeTableWord 16 0 = none ∧ (State.reset.withFetchWord 16 0).pending = [] := by decide

/-! ### Numbers (00_scope, Numbers and rounding; Frame numbers) -/

theorem test_rounding_ties_go_away_from_zero :
    roundDiv 701 4 = 175 ∧ roundDiv (-175) 2 = -88 ∧ roundDiv 101375 2 = 50688 := by decide

/-- 1 is after 65,535, 65,535 is before 1, and 32,768 apart is before either way. -/
theorem test_frame_numbers_wrap :
    frameAfter 1 65535 = true ∧ frameBefore 65535 1 = true ∧ frameBefore 32768 0 = true ∧
      frameBefore 0 32768 = true ∧ frameAfter 0 0 = false := by decide

/-- R3's register taken by hand over sixteen 0 bits from FFFFh: 1D0Fh. -/
theorem test_crc_of_a_zero_word : crcOf [0] = 0x1D0F := by decide +kernel

/-- 600 slopes in 3 blocks: 256, 256 and 88 (R16). -/
theorem test_expected_counts_of_600_slopes :
    (List.range 3).map (MapEntry.expected ⟨true, 8, 3, 600, .optional⟩) = [256, 256, 88] := by decide

/-! ### The filter's worked numbers (06) -/

/-- 50,600 fine units are 197.65 strokes: 198; 48,640 are 190 exactly. -/
theorem test_command_words : commandWord 50600 = 198 ∧ commandWord 48640 = 190 := by decide

/-- The marker counts as 0, every other word as signed (R90). -/
theorem test_dot_product_ignores_the_marker : dotProduct [0x8000, 2, 0xFFFF] [5, 7, 3] = 11 := by decide

/-- The command row lists 0 as enable, 1 as disable (R179). -/
theorem test_enable_is_zero : enableOfNumber 0 = some true ∧ enableOfNumber 1 = some false := by decide

/-! ### Commands, one step each -/

/-- The machine after reset with one command at the front of its queue, stepped; what `f` reads from it. -/
def Tests.after {α : Type} (c : Instr) (s : State) (f : State → α) : Option α :=
  match step { s with pending := [c] } with
  | .next t => some (f t)
  | _ => none

/-- A busy transmitter, so that replies stay where they are. -/
def Tests.busy : State :=
  { State.reset with clp := { Clp.reset with sending := some (.notice ⟨.ringState 0 true, 1⟩) } }

/-- Link 0 of sensor 0 enabled with 4 slopes, in SYNC. -/
def Tests.link : LinkState := { LinkState.reset with receiver := .sync, entry := ⟨true, 0, 1, 4, .essential⟩ }

/-- The loop CLOSED, link 0 in service. -/
def Tests.running : State :=
  { Tests.busy with links := State.reset.links.set 0 Tests.link, lsv := { Lsv.reset with loop := .closed } }

/-- A packet of frame 500 with END, delivered on link 0. -/
def Tests.packet : List Word := [0x8000, 0, 500, 4, 1, 2, 3, 0x8000, 0x1234]

def Tests.delivered : State :=
  { Tests.running with
    links := State.reset.links.set 0
      { Tests.link with
        buffer0 := ⟨.delivered, Tests.packet⟩, order := [.zero]
        current := some ⟨{ FrameRecord.fresh 500 with good := 1 }, 1⟩ } }

theorem test_idle_brings_sync : Tests.after (.sensorIdleInHunt 0)
    (Tests.busy.updLink 0 fun x => { x with receiver := .hunt }) (fun t => (t.link 0).receiver) = some .sync := by
  decide +kernel

theorem test_open_takes_packet_buffer_0 : Tests.after (.sensorOpen 0) Tests.running
    (fun t => ((t.link 0).receiver, (t.link 0).storing)) = some (.receiving, some .zero) := by decide +kernel

theorem test_stray_word_is_a_framing_error : Tests.after (.sensorStrayCode 0 (.word 7)) Tests.running
    (fun t => (t.link 0).counts.framing) = some 1 := by decide +kernel

/-- Step 3 of the worked sequence of one link: STORED frees the buffer and counts in the record; END closes
the record at that moment (step 6). -/
theorem test_copy_end_returns_stored : Tests.after .copyEnd
    { Tests.delivered with sau := { Sau.reset with copy := some ⟨0, .a, 0⟩ } }
    (fun t => ((t.link 0).buffer0.state, (t.link 0).queue.map fun r => (r.frame, r.good, r.stored, r.endSeen))) =
    some (.free, [(500, 1, 1, true)]) := by decide +kernel

/-- A granted packet of a new frame opens buffer A, the other than the one opened last (R29). -/
theorem test_copy_grant_opens_buffer_a : Tests.after .copyGrant Tests.delivered
    (fun t => ((t.desc .a).state, (t.desc .a).tag, t.ctu.deadlineAt)) = some (.opened, 500, some 200000) := by
  decide +kernel

theorem test_copy_grant_refuses_while_stopped : Tests.after .copyGrant
    { Tests.delivered with lsv := Lsv.reset }
    (fun t => ((t.link 0).order, (t.link 0).queue.map fun r => r.notStored)) = some ([], [true]) := by
  decide +kernel

/-- 2,000 µs are 200,000 ticks; the expiry closes the buffer there. -/
theorem test_deadline_closes_at_its_expiry : Tests.after .deadlineExpiry
    { Tests.busy with
      ctu := { Ctu.reset with deadlineAt := some 200000 }
      sau := { Sau.reset with bufA := ⟨{ Descriptor.freed 500 0 0 with state := .opened }, []⟩ } }
    (fun t => (t.ctu.timebase, t.sau.lastClosed, t.lsv.counts.closedDeadline)) =
    some (200000, some 500, 1) := by decide +kernel

theorem test_pace_tick_reloads_from_the_expiry_point : Tests.after .paceTick
    { Tests.running with ctu := { Ctu.reset with trigger := .paced, paceAt := some 100000, pacePending := 500 } }
    (fun t => (t.ctu.paceAt, t.lsv.counts.emptyTicks)) = some (some 150000, 1) := by decide +kernel

theorem test_burst_grant_prefers_the_engine : Tests.after .burstGrant
    { Tests.busy with mmc := { Mmc.reset with
      engineWaits := some ⟨.engine, 8, none, .zero, 0, 0, false⟩
      hostWaits := some ⟨.hostMatrix, 9, none, .zero, 0, 1, false⟩ } }
    (fun t => (t.mmc.port.map (·.who), t.mmc.hostWaits.map (·.row))) = some (some .engine, some 1) := by
  decide +kernel

theorem test_burst_end_outside_the_dram_stops :
    (match step { Tests.busy with
        pending := [.burstEnd false []]
        mmc := { Mmc.reset with port := some ⟨.engine, 1048576, none, .zero, 0, 0, false⟩ } } with
      | .fault f => some f
      | _ => none) = some .noSuchBurst := by decide +kernel

theorem test_filter_pass_end_in_open_sends_no_slice : Tests.after .filterPassEnd
    { Tests.busy with tfu := { Tfu.reset with pass := some ⟨.a, 7, .zero, 0, .opened, [5], [0]⟩ } }
    (fun t => (t.drp.queue.length, t.lsv.counts.completed, (t.desc .a).outcome)) =
    some (0, 1, some .completed) := by decide +kernel

theorem test_bypass_passes_a_violation_through : Tests.after .ringCodeViolation Tests.busy
    (fun t => (t.ringOut, t.drp.counts.violations)) = some ([.violation], 0) := by decide +kernel

/-- Joining: the first IDLE after a MARK passed is sent on and also held (R137). -/
theorem test_joining_takes_its_delay : Tests.after .ringIdle
    { Tests.busy with drp := { Drp.reset with state := .joining, markPassed := true } }
    (fun t => (t.drp.state, t.drp.holding, t.ringOut)) = some (.listening, some .idle, [.idle]) := by
  decide +kernel

/-- The held code goes out when its successor comes in (R136). -/
theorem test_listening_repeats_one_code_late : Tests.after (.ringCode (.word 5))
    { Tests.busy with drp := { Drp.reset with state := .listening, holding := some .idle } }
    (fun t => (t.ringOut, t.drp.holding)) = some ([.idle], some (.data 5)) := by decide +kernel

/-- A head word purges older slices as stale (R148). -/
theorem test_head_word_purges_older_slices : Tests.after (.ringHeadWord 501)
    { Tests.busy with drp := { Drp.reset with
      state := .onRing, headOpen := true, queue := [⟨500, false, [1], ⟨0, 1, 0⟩⟩, ⟨501, false, [2], ⟨0, 1, 0⟩⟩] } }
    (fun t => (t.drp.queue.map (·.tag), t.drp.counts.stale, t.drp.train)) = some ([501], 1, some 501) := by
  decide +kernel

/-- SET_TRIP 3, 4 with tag 9 joins the queue behind a request in execution, and waits (R168, R169). -/
theorem test_good_request_joins_the_queue : Tests.after .controlMessageClose
    { Tests.busy with clp := { Tests.busy.clp with
      inExec := some ⟨⟨11, 1, [0]⟩, .engine .closed⟩, replies := [.pending]
      receiver := .receiving, buffer := [12, 9, 0, 2, 3, 4, 7], line := ⟨7, 1, 7, 7⟩ } }
    (fun t => (t.clp.requests, t.lsv.skipLimit)) = some ([⟨12, 9, [3, 4]⟩], 0) := by decide +kernel

/-- With none in execution the same message is taken into execution as it arrives (R178); one of kind 1 is no
request (R167). -/
theorem test_good_request_starts_at_once :
    let message (ws : List Word) : State := { Tests.busy with clp := { Tests.busy.clp with
      receiver := .receiving, buffer := ws, line := ⟨7, 1, 7, 7⟩ } }
    Tests.after .controlMessageClose (message [12, 9, 0, 2, 3, 4, 7])
      (fun t => (t.clp.requests, t.clp.replies, t.lsv.skipLimit)) = some ([], [.ready ⟨12, 9, .ok, []⟩], 3) ∧
    Tests.after .controlMessageClose (message [0x400C, 9, 0, 2, 3, 4, 7])
      (fun t => (t.clp.replies, t.clp.receiveErrors)) = some ([], 1) := by decide +kernel

/-- The next request starts when a message out of a full reply queue makes room for its reply (R169). -/
theorem test_waiting_request_starts_when_a_reply_leaves : Tests.after .messageSent
    { Tests.busy with clp := { Tests.busy.clp with
      requests := [⟨12, 9, [3, 4]⟩], replies := List.replicate 16 (.ready ⟨0, 1, .ok, []⟩) } }
    (fun t => (t.clp.requests, t.clp.replies.length, t.lsv.skipLimit)) = some ([], 16, 3) := by decide +kernel

/-- IDENTIFY after a hard reset (R174): vendor 4E4Ah, part 1610h, 131,072 pages in two words. -/
theorem test_identify : Tests.after (.identify 3 []) Tests.busy (fun t => t.clp.replies) =
    some [.ready ⟨0, 3, .ok, [0x4E4A, 0x1610, 1, 8, 1024, 2, 0, 2048, 0, 0, 0]⟩] := by decide +kernel

theorem test_set_loop_reply_carries_both_states : Tests.after (.setLoop 4 [2]) Tests.busy
    (fun t => (t.lsv.loop, t.clp.replies)) = some (.closed, [.ready ⟨11, 4, .ok, [0, 2]⟩]) := by decide +kernel

/-- Base 63 and 2 blocks reach beyond block 63 (R13 check 3). -/
theorem test_set_sensor_window_must_fit : Tests.after (.setSensor 1 [0, 1, 63, 2, 300, 0]) Tests.busy
    (fun t => t.clp.replies) = some [.ready ⟨6, 1, .invalid, []⟩] := by decide +kernel

theorem test_write_directory_protects_the_active_bank : Tests.after
    (.writeDirectory 1 [0, 0, 1, 0, 0, 0, 128]) Tests.busy
    (fun t => t.clp.replies) = some [.ready ⟨13, 1, .writeProtected, []⟩] := by decide +kernel

theorem test_wrong_length_is_a_bad_request : Tests.after (.setTrip 1 [3]) Tests.busy
    (fun t => (t.clp.replies, t.lsv.skipLimit)) = some ([.ready ⟨12, 1, .badRequest, []⟩], 0) := by decide +kernel

/-- OPEN, four header words, the three of RING_STATE, CRC and CLOSE follow the ABORT of the reset. -/
theorem test_message_sent_frees_the_transmitter : Tests.after .messageSent Tests.busy
    (fun t => (t.clp.sending, t.controlOut.length)) = some (none, 11) := by decide +kernel

theorem test_reset_end_sends_abort : Tests.after .hardResetEnd { State.reset with inReset := true, controlOut := [] }
    (fun t => (t.inReset, t.controlOut)) = some (false, [.abort]) := by decide +kernel

theorem test_soft_reset_keeps_the_sensor_map : Tests.after .softReset
    { Tests.running with clp := { Clp.reset with
      resetInHand := true, sending := some (.reply ⟨5, 1, .ok, []⟩) } }
    (fun t => ((t.link 0).receiver, (t.link 0).entry.enabled, t.lsv.loop, t.clp.lastReset)) =
    some (.hunt, true, .stopped, .soft) := by decide +kernel

/-- Both timers due at the present moment: the deadline timer expires, then the pace timer, and then 10 ns
pass (R54, R58). -/
theorem test_idle_step_loses_no_expiry :
    (match step { Tests.running with
        ctu := { Ctu.reset with trigger := .paced, paceAt := some 0, deadlineAt := some 0 }
        sau := { Sau.reset with bufA := ⟨{ Descriptor.freed 500 0 0 with state := .opened }, []⟩ } } with
      | .next t => some (t.ctu.timebase, t.ctu.deadlineAt, t.ctu.paceAt, t.lsv.counts.closedDeadline)
      | _ => none) = some (1, none, some 100000, 1) := by decide +kernel

/-- The store geometry names the enabled sensors as a mask before their block counts (R165, R179). -/
theorem test_status_names_the_sensors_of_the_store :
    (State.tmrStatus { Tests.busy with tmr := { Tmr.reset with
      geometry := some ⟨3, 5, 1, [2, 0, 0, 1, 0, 0, 0, 0]⟩ } }).drop 11 =
      [1, 3, 0, 5, 1, 9, 2, 0, 0, 1, 0, 0, 0, 0] ++ List.replicate 14 0 := by decide +kernel

theorem test_idle_queue_is_one_tick : (match step Tests.busy with | .next t => some t.ctu.timebase | _ => none) =
    some 1 := by decide +kernel

/-! ### Premises that can be met: one theorem for each statement that has any

`ready` says that the machine after reset takes any request at once; the witnesses of the request rows give
the operands at the ends of their ranges. -/

theorem Tests.ready (payload : List Word) (h : payload.length ≤ 2048) : State.reset.Ready payload :=
  ⟨rfl, rfl, rfl, rfl, Nat.zero_lt_succ 15, List.not_mem_nil, h⟩

/-- So does the machine with the transmitter busy, fifteen replies waiting and the loop CLOSED. -/
def Tests.full : State :=
  { Tests.running with clp := { Tests.busy.clp with replies := List.replicate 15 (.ready ⟨0, 1, .ok, []⟩) } }

theorem Tests.readyRunning (payload : List Word) (h : payload.length ≤ 2048) : Tests.full.Ready payload :=
  ⟨rfl, rfl, rfl, rfl, by decide, by decide, h⟩

theorem witness_StepRunsTheFrontCommand :
    (Tests.busy.pending = [] ∧ Tests.busy.inReset = false ∧ Tests.busy.clp.sending ≠ none ∧
      Tests.busy.clp.requests = [] ∧ Tests.busy.ctu.deadlineAt ≠ some Tests.busy.ctu.timebase ∧
      Tests.busy.ctu.paceAt ≠ some Tests.busy.ctu.timebase ∧
      Tests.busy.ctu.deadlineAt ≠ some (Tests.busy.ctu.timebase + 1) ∧
      Tests.busy.ctu.paceAt ≠ some (Tests.busy.ctu.timebase + 1)) ∧
    (let s := { State.reset with inReset := true }; s.pending = [] ∧ s.inReset = true) := by decide +kernel

theorem witness_SensorCodesTouchOnlyTheirLink :
    Tests.running.inReset = false ∧ ∃ w : Word, Instr.sensorDataWord 7 5 = .sensorDataWord 7 w := ⟨rfl, 5, rfl⟩

theorem witness_SensorReceiverTakesEachCode :
    Tests.running.inReset = false ∧
      ((Tests.running.link 0).receiver ≠ .receiving ∨ (Tests.running.link 0).storing = none) := by decide +kernel

/-- Link 0 RECEIVING into packet buffer 0, packet buffer 1 delivered, a current record. -/
def Tests.receiving : State :=
  { Tests.running with
    links := State.reset.links.set 0
      { Tests.link with
        receiver := .receiving, storing := some .zero, buffer0 := ⟨.filling, Tests.packet⟩
        buffer1 := ⟨.delivered, Tests.packet⟩, order := [.one], line := ⟨9, 1, 0x1234, 0x1234⟩
        current := some ⟨FrameRecord.fresh 500, 1⟩ } }

theorem witness_LossOfLineOrderEntersHunt :
    Tests.receiving.inReset = false ∧ (Tests.receiving.link 0).receiver = .receiving ∧
      (Tests.receiving.link 0).storing = some .zero ∧ (Tests.receiving.link 0).storing ≠ some .one ∧
      Tests.receiving.clp.sending ≠ none ∧ inMask Tests.receiving.clp.mask .linkState = true ∧
      (Tests.running.link 0).receiver = .sync ∧ (State.reset.link 0).receiver = .disabled := by decide +kernel

theorem witness_SensorCloseChecksInOrder :
    Tests.receiving.inReset = false ∧ (Tests.receiving.link 0).receiver = .receiving ∧
      (Tests.receiving.link 0).storing = some .zero ∧ 5 ≤ (Tests.receiving.link 0).line.count ∧
      packetFault 0 (Tests.receiving.link 0).entry (Tests.receiving.link 0).line Tests.packet = none := by
  decide +kernel

/-- The last block at its longest (768 = 3 × 256) and its shortest (513); a packet of 255 slopes in a block of
256. -/
theorem witness_ExpectedSlopeCountOfABlock :
    (∀ e ∈ [MapEntry.mk true 8 3 768 .optional, ⟨true, 8, 3, 513, .optional⟩, ⟨true, 63, 1, 1, .optional⟩],
      1 ≤ e.blocks ∧ 256 * (e.blocks - 1) < e.slopes ∧ e.slopes ≤ 256 * e.blocks) ∧
    (let e : MapEntry := ⟨true, 8, 2, 300, .optional⟩
     let ws : List Word := [3, 0, 500, 255]
     let line : LineCheck := ⟨260, 1, 7, 7⟩
     5 ≤ line.count ∧ line.count ≤ 261 ∧ line.crcPasses = true ∧ line.count = packetSlopes ws + 5 ∧
       packetSensor ws = 3 ∧ packetBlock ws < e.blocks ∧ packetSlopes ws ≠ e.expected (packetBlock ws)) ∧
    (List.replicate 256 (1 : Word)).length ≤ 256 := by decide +kernel

theorem witness_SensorLinksStayConsistent :
    Tests.receiving.LinksConsistent ∧ ∃ t, step { Tests.receiving with pending := [.sensorClose 0] } = .next t := by
  refine ⟨fun l => ?_, _, rfl⟩
  have h : ∀ l : Link, (Tests.receiving.link l) = if l = 0 then Tests.receiving.link 0 else .reset := by
    decide +kernel
  rw [h l]
  split
  · refine ⟨by decide, by decide, ?_, ?_, by decide, ?_, by decide⟩ <;> intro k <;> cases k <;> decide
  · refine ⟨by decide, by decide, ?_, ?_, by decide, ?_, by decide⟩ <;> intro k <;> cases k <;> decide

/-- Buffer A OPEN with frame 501. -/
def Tests.opened : State :=
  { Tests.delivered with
    sau := { Sau.reset with
      lastOpened := .a, bufA := ⟨{ Descriptor.freed 501 0 0 with state := .opened }, []⟩ }
    ctu := { Ctu.reset with deadlineAt := some 200000 } }

/-- Buffer A OPEN with frame 501, block 0 accepted or not, link 0 presenting a packet. -/
def Tests.presenting (ws : List Word) (accepted : Word) : State :=
  { Tests.opened with
    links := State.reset.links.set 0 { Tests.link with buffer0 := ⟨.delivered, ws⟩, order := [.zero] }
    sau := { Tests.opened.sau with bufA := ⟨{ Descriptor.freed 501 0 0 with
      state := .opened, sensors := (Descriptor.freed 501 0 0).sensors.set 0 ⟨accepted, false, false⟩ }, []⟩ } }

def Tests.packets : List (List Word) :=
  [[0, 0, 501, 4, 1, 2, 3, 4, 0], [0x8000, 0, 501, 4, 1, 2, 3, 4, 0], [0, 0, 502, 4, 1, 2, 3, 4, 0],
    [0, 0, 500, 4, 1, 2, 3, 4, 0]]

/-- Each clause: a copy in progress; STOPPED; no buffer OPEN; with one OPEN a packet of its frame, stored or a
DUPLICATE, without and with END, one of the frame after it and one of the frame before it. -/
theorem witness_CopyGrantServesLinksInTurn :
    (Tests.delivered.inReset = false ∧ Tests.delivered.sau.copy = none ∧
      (Tests.delivered.link 0).presented = some Tests.packet ∧
      (∀ k : Link, (Tests.delivered.link k).presented ≠ none → (0 + 7 - 7) % 8 ≤ (k.val + 7 - 7) % 8) ∧
      Tests.delivered.running = true ∧ (Tests.delivered.link 0).uncovered Tests.packet = false ∧
      Tests.delivered.openBuffer = none) ∧
    (let s := { Tests.delivered with sau := { Sau.reset with copy := some ⟨0, .a, 0⟩ } }; s.sau.copy ≠ none) ∧
    (let s := { Tests.delivered with lsv := Lsv.reset }; s.running = false) ∧
    (∀ (ws : List Word) (accepted : Word),
      (Tests.presenting ws accepted).inReset = false ∧ (Tests.presenting ws accepted).sau.copy = none ∧
        ((Tests.presenting ws accepted).link 0).presented = some ws ∧
        (Tests.presenting ws accepted).running = true ∧ (Tests.presenting ws accepted).openBuffer = some .a) ∧
    (∀ k : Link, ((Tests.presenting Tests.packet 0).link k).presented ≠ none →
      (0 + 7 - 7) % 8 ≤ (k.val + 7 - 7) % 8) ∧
    (∀ ws ∈ Tests.packets, ((Tests.presenting ws 0).link 0).uncovered ws = false ∧ packetBlock ws = 0) ∧
    ((((Tests.presenting Tests.packet 0).desc .a).sensors[0]).accepted = 0 ∧
      (((Tests.presenting Tests.packet 1).desc .a).sensors[0]).accepted = 1) ∧
    (packetEnd [0, 0, 501] = false ∧ packetEnd [0x8000, 0, 501] = true ∧ frameAfter 502 501 = true ∧
      frameBefore 500 501 = true) :=
  ⟨by decide +kernel, by decide, rfl, fun _ _ => ⟨rfl, rfl, rfl, rfl, rfl⟩, by decide +kernel, by decide +kernel,
    by decide +kernel, by decide +kernel⟩

/-- Buffer A, the one not opened last; buffer B, opened last, where A is not FREE. -/
theorem witness_CopyGrantOpensABuffer :
    (Tests.delivered.Assembling ∧ (Tests.delivered.link 0).presented = some Tests.packet ∧
      (Tests.delivered.link 0).uncovered Tests.packet = false ∧ Tests.delivered.openBuffer = none ∧
      Tests.delivered.sau.lastClosed = none ∧ (Tests.delivered.desc .a).state = .free ∧
      .a ≠ Tests.delivered.sau.lastOpened ∧
      (∀ k : Link, (Tests.delivered.link k).presented ≠ none → k = 0)) ∧
    (let s := { Tests.delivered with sau := { Sau.reset with
      lastClosed := some 499, bufA := ⟨{ Descriptor.freed 499 0 0 with state := .retiring }, []⟩ } }
     s.sau.copy = none ∧ s.openBuffer = none ∧ frameAfter (packetFrame Tests.packet) 499 = true ∧
      (s.desc .b).state = .free ∧ .b = s.sau.lastOpened ∧ (s.desc .a).state ≠ .free) ∧
    (Tests.opened.openBuffer = some .a ∧ (Tests.opened.desc .a).state = .opened ∧
      (Tests.opened.desc .b).state ≠ .opened) :=
  ⟨⟨⟨rfl, rfl, rfl⟩, rfl, by decide +kernel, rfl, rfl, rfl, by decide, by decide +kernel⟩, by decide +kernel,
    by decide +kernel⟩

/-- No copy; a copy whose end leaves enabled sensor 1 unfinished; one that finishes the frame while the engine
waits for its block and an expiry is held. -/
theorem witness_CopyEndStoresTheBlock :
    (Tests.delivered.inReset = false ∧ Tests.delivered.sau.copy = none) ∧
    (let s := { Tests.delivered with
      links := Tests.delivered.links.set 1 { Tests.link with entry := ⟨true, 1, 1, 4, .optional⟩ }
      sau := { Sau.reset with copy := some ⟨0, .a, 0⟩ } }
     s.inReset = false ∧ s.sau.copy = some ⟨0, .a, 0⟩ ∧ (s.link 0).presented = some Tests.packet ∧
      (1 : Link) ≠ 0 ∧ (s.link 1).entry.enabled = true ∧ ((s.desc .a).sensors[1]).finished = false) ∧
    (let s := { Tests.presenting Tests.packet 0 with
      rce := { Rce.reset with state := .waiting, attached := some .a }
      sau := { (Tests.presenting Tests.packet 0).sau with copy := some ⟨0, .a, 0⟩, heldExpiry := true } }
     s.inReset = false ∧ s.sau.copy = some ⟨0, .a, 0⟩ ∧ s.rce.state = .waiting ∧ s.rce.attached = some .a ∧
      s.sau.heldExpiry = true ∧ packetEnd Tests.packet = true) := by decide +kernel

theorem witness_DeadlineExpiryClosesTheOpenBuffer :
    (State.reset.ctu.deadlineAt = none) ∧
    (Tests.opened.ctu.deadlineAt = some 200000 ∧ Tests.opened.ctu.reachable 200000 none = true ∧
      Tests.opened.ctu.reachable 200000 (some 200000) = true ∧
      Tests.opened.ctu.reachable 200000 (some 199999) = false ∧ Tests.opened.sau.copy = none ∧
      Tests.opened.openBuffer = some .a ∧ Tests.delivered.openBuffer = none) := by decide +kernel

/-- Both timers due at one point; the selected edge and the other. -/
theorem witness_TicksAreLateEmptyOrAttach :
    let s := { Tests.opened with ctu := { Tests.opened.ctu with trigger := .external, paceAt := some 200000 } }
    s.inReset = false ∧ s.ctu.paceAt = some 200000 ∧ s.ctu.reachable 200000 s.ctu.deadlineAt = true ∧
      s.ctu.trigger = .external ∧ s.ctu.edge = .rising ∧ s.ctu.edge ≠ .falling := by decide +kernel

/-- A pending swap with a pending apply; an engine with its row to present, and one that is not BUSY. -/
theorem witness_AttachFixesBankShiftAndSums :
    (let s := { Tests.opened with
      mmc := { Mmc.reset with swap := some .one }, tfu := { Tfu.reset with applyPending := true } }
     s.mmc.swap = some .one ∧ s.tfu.applyPending = true ∧ s.tfu.pass = none) ∧
    (let e := { Rce.reset with state := .busy, bank := some .one, block := some 63, attached := some .a, nextRow := 0 }
     e.state = .busy ∧ e.block = some 63 ∧ e.bank = some .one ∧ e.nextRow < Tests.opened.drp.settings.actuators) ∧
    State.reset.rce.state ≠ .busy := by decide +kernel

theorem witness_AtMostOneBufferStaysOpen :
    Tests.opened.OneOpen ∧ ∃ t, step { Tests.opened with pending := [.copyGrant] } = .next t :=
  ⟨⟨by decide, fun _ => .inl rfl⟩, _, rfl⟩

def Tests.engineBurst : Burst := ⟨.engine, 8, none, .zero, 0, 0, false⟩
def Tests.hostBurst : Burst := ⟨.hostMatrix, 1048575, some (List.replicate 256 7), .zero, 0, 7, false⟩

def Tests.recordBurst : Burst := ⟨.telemetry, 8, some (List.replicate 256 7), .zero, 0, 0, false⟩

/-- The engine waits; the recorder waits before the host channel; the host channel alone waits; the port is
busy. The statement's one premise is that no hard reset lasts. -/
theorem witness_BurstGrantGoesByPriority :
    Tests.busy.inReset = false ∧
    (let m := { Mmc.reset with recorderWaits := some Tests.recordBurst, hostWaits := some Tests.hostBurst }
     m.port = none ∧ m.engineWaits.or (m.recorderWaits.or m.hostWaits) = some Tests.recordBurst) ∧
    (let m := { Mmc.reset with engineWaits := some Tests.engineBurst, hostWaits := some Tests.hostBurst }
     m.port = none ∧ m.engineWaits.or (m.recorderWaits.or m.hostWaits) = some Tests.engineBurst) ∧
    (let m := { Mmc.reset with hostWaits := some Tests.hostBurst }
     m.port = none ∧ m.engineWaits.or (m.recorderWaits.or m.hostWaits) = some Tests.hostBurst ∧
      m.engineWaits = none ∧ m.recorderWaits = none) ∧
    (let m := { Mmc.reset with port := some Tests.hostBurst }; m.port ≠ none) := by decide +kernel

/-- The last burst of the DRAM, and a dropped one of the recorder; memories of rising addresses. -/
theorem witness_WriteBurstEndStoresItsWords :
    (let s := { Tests.busy with mmc := { Mmc.reset with port := some Tests.hostBurst } }
     s.inReset = false ∧ s.mmc.port = some Tests.hostBurst ∧
      Tests.hostBurst.write = some (List.replicate 256 7) ∧ Tests.hostBurst.place < 1048576) ∧
    (let b := { Tests.recordBurst with dropped := true }
     b.write = some (List.replicate 256 7) ∧ b.place < 1048576 ∧ b.dropped = true) ∧
    (Memory.wf [(0, 1), (5, 2)] ∧ (List.replicate 256 (1 : Word)).length = 256 ∧ 255 < 256) := by decide +kernel

/-- A read inside the DRAM, one just outside, and no burst at all. -/
theorem witness_ReadBurstEndCountsItsErrors :
    (let s := { Tests.busy with mmc := { Mmc.reset with port := some { Tests.engineBurst with place := 1048575 } } }
     s.inReset = false ∧ s.mmc.port = some { Tests.engineBurst with place := 1048575 } ∧
      Tests.engineBurst.write = none ∧ (1048575 < 1048576) ∧ s.clp.sending ≠ none ∧
      inMask s.clp.mask .memoryError = true) ∧
    (let s := { Tests.busy with mmc := { Mmc.reset with port := some { Tests.engineBurst with place := 1048576 } } }
     s.inReset = false ∧ s.mmc.port = some { Tests.engineBurst with place := 1048576 } ∧
      1048576 ≤ ({ Tests.engineBurst with place := 1048576 } : Burst).place) ∧
    Tests.busy.mmc.port = none := by decide +kernel

/-- The engine BUSY on block 0 of buffer A with row 0 of two in transfer, its burst written in the DRAM. -/
def Tests.engine : State :=
  { Tests.busy with
    lsv := { Lsv.reset with loop := .closed }
    sau := { Sau.reset with bufA := ⟨{ Descriptor.freed 500 0 0 with state := .closed, relation := .attached },
      [(0, List.replicate 256 3)]⟩ }
    drp := { Drp.reset with settings := ⟨0, 2, 0⟩ }
    rce := { Rce.reset with state := .busy, attached := some .a, bank := some .zero, shift := some 14, block := some 0 }
    mmc := { Mmc.reset with
      port := some Tests.engineBurst, dram := Memory.writeBurst [] 8 (List.replicate 256 2) } }

/-- A row that is not the last, and the last; an engine that delivers, and one that does not. -/
theorem witness_EngineRowAddsItsDotProduct :
    (Tests.engine.inReset = false ∧ Tests.engine.mmc.port = some Tests.engineBurst ∧
      Tests.engineBurst.who = .engine ∧ Tests.engineBurst.write = none ∧ Tests.engineBurst.dropped = false ∧
      Tests.engineBurst.place < 1048576 ∧ Tests.engine.rce.state = .busy ∧
      Tests.engine.rce.attached = some .a ∧ Tests.engine.rce.block = some 0 ∧
      Tests.engineBurst.row + 1 < Tests.engine.actuators ∧
      (let s := { Tests.engine with drp := { Drp.reset with settings := ⟨0, 1, 0⟩ } }
       Tests.engineBurst.row + 1 = s.actuators) ∧
      ∀ i, i < 64 → Memory.eccWritten Tests.engine.mmc.dram Tests.engineBurst.place i = true ∧
        Tests.engine.mmc.weak.lookup (64 * Tests.engineBurst.place + i) = none) ∧
    (let e := { Tests.engine.rce with state := .delivering, attachedAt := some 7, residuals := [5, 6] }
     e.attached = some .a ∧ e.bank = some .zero ∧ e.attachedAt = some 7 ∧ e.state = .delivering) ∧
    State.reset.rce.state ≠ .delivering := by decide +kernel

/-- The same with an uncorrectable last word. -/
theorem witness_UncorrectableRowSkipsTheCycle :
    let s := { Tests.engine with mmc := { Tests.engine.mmc with weak := [(575, .uncorrectable)] } }
    s.inReset = false ∧ s.mmc.port = some Tests.engineBurst ∧ Tests.engineBurst.who = .engine ∧
      Tests.engineBurst.write = none ∧ Tests.engineBurst.dropped = false ∧ Tests.engineBurst.place < 1048576 ∧
      s.rce.state = .busy ∧ s.rce.attached = some .a ∧
      s.rce.block = some 0 ∧ 63 < 64 ∧ Memory.eccWritten s.mmc.dram Tests.engineBurst.place 63 = true ∧
      s.mmc.weak.lookup (64 * Tests.engineBurst.place + 63) = some .uncorrectable ∧ s.ctu.order = .batch ∧
      s.tfu.applyPending = false := by decide +kernel

theorem witness_DramStaysCanonical :
    let s := { Tests.busy with mmc := { Mmc.reset with dram := [(0, 1), (5, 2)], port := some Tests.engineBurst } }
    Memory.wf s.mmc.dram ∧ ∃ t, step { s with pending := [.burstGrant] } = .next t := ⟨by decide, _, rfl⟩

/-- One present column block of page 0 and a telemetry region of pages 1 and 2. -/
def Tests.paged : State :=
  { Tests.busy with
    mmc := { Mmc.reset with bank1 := { Bank.reset with directory := Bank.reset.directory.set 0 ⟨true, 0, 1⟩ } }
    tmr := { Tmr.reset with config := some ⟨1, 2, ⟨true, false, false⟩, 1, .ring, 0⟩ } }

theorem witness_PageRangesStayDisjoint :
    Tests.paged.PagesDisjoint ∧ ∃ t, step { Tests.paged with pending := [.ringIdle] } = .next t := by
  have hz : ∀ g, g < 64 → (Tests.paged.entry .zero g).present = false := by decide +kernel
  have ho : ∀ g, g < 64 → (Tests.paged.entry .one g).present = true → g = 0 := by decide +kernel
  have h : ∀ k g, (Tests.paged.entry k g).present = true → k = .one ∧ g = 0 := by
    intro k g hg
    by_cases hl : g < 64
    · cases k
      · rw [hz g hl] at hg; cases hg
      · exact ⟨rfl, ho g hl hg⟩
    · cases k <;> simp [State.entry, entryAt, Vector.getElem?_eq_none (Nat.not_lt.mp hl), DirEntry.absent] at hg
  refine ⟨⟨fun k g hg => ?_, fun k g k' g' hne hg hg' => ?_, fun c k g hc hg => ?_⟩, _, rfl⟩
  · obtain ⟨rfl, rfl⟩ := h k g hg; decide
  · obtain ⟨rfl, rfl⟩ := h k g hg
    obtain ⟨rfl, rfl⟩ := h k' g' hg'
    exact absurd rfl hne
  · obtain ⟨rfl, rfl⟩ := h k g hg
    cases hc
    decide

theorem witness_BankRequestsAreChecked :
    State.reset.Ready [1, 63, 1, 1, 65535, 0, 1] ∧ State.reset.Ready [2, 64, 2, 0, 0, 0, 0] ∧
      State.reset.Ready [1, 8] ∧ State.reset.Ready [1, 25] ∧ Tests.full.Ready [1] ∧ State.reset.Ready [] :=
  ⟨Tests.ready _ (by decide), Tests.ready _ (by decide), Tests.ready _ (by decide), Tests.ready _ (by decide),
    Tests.readyRunning _ (by decide), Tests.ready _ (by decide)⟩

theorem witness_MatrixRequestsPresentOneBurstPerRow :
    (State.reset.Ready (1 :: 63 :: 1023 :: 4 :: List.replicate 1024 0) ∧
      (List.replicate 1024 (0 : Word)).length ≤ 1024) ∧
    State.reset.Ready [1, 63, 1023, 1] ∧
    (let r : Request := ⟨16, 1, [1, 63, 1022, 2]⟩
     let s := { Tests.busy with clp := { Tests.busy.clp with
      inExec := some ⟨r, .transfer [] 2 [] .readMatrix⟩, replies := [.pending] } }
     s.clp.inExec = some ⟨r, .transfer [] 2 [] .readMatrix⟩) :=
  ⟨⟨Tests.ready _ (by decide +kernel), by decide +kernel⟩, Tests.ready _ (by decide), rfl⟩

/-- A tie, and an accumulator at its lower limit. -/
theorem witness_RoundedQuotientsAreNearest :
    0 < 2 ∧ 2 * ((-175 : Int) - roundDiv (-175) 2 * 2).natAbs = 2 ∧
      (ActuatorParams.mk true 0 65536 0x8000 0x7FFF).low ≤ -8388608 ∧
      (-8388608 : Int) ≤ (ActuatorParams.mk true 0 65536 0x8000 0x7FFF).high := by decide

theorem witness_PassValuesAreClampedToTheLimits :
    (let l : PassLine := ⟨⟨true, 4096, 65536, 0, 10⟩, 0, false⟩
     l.params.low ≤ l.params.high ∧ l.params.leak ≤ 65536 ∧ l.params.enabled = true ∧
      l.params.high < roundDiv (l.params.leak * l.value) 65536 + roundDiv (l.params.gain.toInt * 2561) 4096) ∧
    ((0 : Int) ≤ 2560 ∧ (0 : Int) ≤ 12800 ∧ (2560 : Int) < 12800 - 7680) := by decide

theorem witness_AccumulatorsStayWithinLimits :
    let active := Tfu.reset.active.set 0 ⟨⟨true, 0, 65536, 0xFFFF, 1⟩, 256, 0⟩
    let pass : FilterPass := ⟨.a, 7, .zero, 0, .closed, [5], [-256]⟩
    let s := { Tests.busy with
      lsv := { Lsv.reset with loop := .closed }
      tfu := { Tfu.reset with active := active, pass := some pass } }
    s.WithinLimits ∧ ∃ t, step { s with pending := [.filterPassEnd] } = .next t := by
  intro active pass s
  refine ⟨⟨?_, ?_, ?_, .inl rfl⟩, _, rfl⟩
  · show ∀ r : ActiveRecord, r ∈ active.toList → r.params.low ≤ r.acc ∧ r.acc ≤ r.params.high
    decide +kernel
  · decide +kernel
  · rintro p ⟨⟩
    refine ⟨rfl, fun i v r hv hr => ?_⟩
    match i, hv with
    | 0, hv =>
      have h0 : active.toList[0]? = some ⟨⟨true, 0, 65536, 0xFFFF, 1⟩, 256, 0⟩ := by decide +kernel
      cases hv
      cases h0.symm.trans hr
      exact ⟨by decide, by decide⟩

/-- No pass; a HELD and a CLOSED pass whose values are the accumulators; an apply and a preset that wait for
the pass to end. -/
theorem witness_FilterPassEndCompletesTheCycle :
    (Tests.busy.inReset = false ∧ Tests.busy.tfu.pass = none) ∧
    (∀ p ∈ [FilterPass.mk .a 7 .zero 0 .held [5] [], ⟨.a, 7, .zero, 0, .closed, [5], [0]⟩],
      let s := { Tests.busy with tfu := { Tfu.reset with pass := some p } }
      s.inReset = false ∧ s.tfu.pass = some p ∧ s.tfu.applyDue = false ∧ s.clp.inExec = none ∧
        s.rce.state ≠ .delivering ∧
        ∀ (i : Nat) (v : Int) (r : ActiveRecord), p.values[i]? = some v → s.tfu.active.toList[i]? = some r →
          v = r.acc) ∧
    (let s := { Tests.full with
      tfu := { Tfu.reset with applyDue := true, pass := some ⟨.b, 7, .one, 0, .opened, [5], [0]⟩ }
      clp := { Tests.full.clp with inExec := some ⟨⟨23, 1, [0, 1, 5]⟩, .pass 0 [5]⟩ } }
     s.inReset = false ∧ s.tfu.pass = some ⟨.b, 7, .one, 0, .opened, [5], [0]⟩) := by
  refine ⟨⟨rfl, rfl⟩, ?_, rfl, rfl⟩
  intro p hp
  simp only [List.mem_cons, List.not_mem_nil, or_false] at hp
  obtain rfl | rfl := hp
  · exact ⟨rfl, rfl, rfl, rfl, by decide, by simp⟩
  · refine ⟨rfl, rfl, rfl, rfl, by decide, fun i v r hv hr => ?_⟩
    match i, hv with
    | 0, hv =>
      have h0 : Tfu.reset.active.toList[0]? = some ActiveRecord.reset := by decide +kernel
      cases hv
      cases h0.symm.trans hr
      rfl

/-- The longest of each request, and the two requests without fields. -/
theorem witness_ParametersAreStaged :
    (State.reset.Ready (896 :: 128 :: List.replicate 768 0) ∧
      (List.replicate 768 (0 : Word)).length = 6 * (128 : Word).toNat) ∧
    (State.reset.Ready (1792 :: 256 :: 2048 :: List.replicate 768 0) ∧
      (List.replicate 768 (0 : Word)).length = 3 * (256 : Word).toNat) ∧
    State.reset.Ready [] ∧ State.reset.Ready [] ∧
    (0 < 1024 ∧ (Tfu.reset.active.toList[0]?).isSome = true ∧ (Tfu.reset.shadow.toList[0]?).isSome = true) ∧
    ([(1 : Word), 4096, 1, 0, 0xFFFF, 5].length = 6 * 1 ∧
      paramsOf [1, 4096, 1, 0, 0xFFFF, 5] = some [⟨true, 4096, 65536, 0xFFFF, 5⟩] ∧ 0 < 1) ∧
    ([(1023 : Word), 0, 7].length = 3 * 1 ∧ pairsOf [1023, 0, 7] = some [⟨1023, 0, 7⟩]) :=
  ⟨⟨Tests.ready _ (by decide +kernel), by decide +kernel⟩,
    ⟨Tests.ready _ (by decide +kernel), by decide +kernel⟩, Tests.ready _ (by decide),
    Tests.ready _ (by decide), by decide +kernel, by decide +kernel, by decide +kernel⟩

/-- Taken at once; in CLOSED; past the last actuator; with a pass running; and one that waits for its end. -/
theorem witness_PresetSetsTheAccumulators :
    ((List.replicate 1024 (5 : Word)).length = (1024 : Word).toNat ∧
      State.reset.Ready (0 :: 1024 :: List.replicate 1024 5) ∧ State.reset.lsv.loop ≠ .closed ∧
      State.reset.tfu.pass = none) ∧
    (Tests.full.Ready [0, 1, 5] ∧ [(5 : Word)].length = (1 : Word).toNat ∧ Tests.full.lsv.loop = .closed) ∧
    (State.reset.Ready [1023, 2, 5, 5] ∧ [(5 : Word), 5].length = (2 : Word).toNat) ∧
    (let s := { State.reset with tfu := { Tfu.reset with pass := some ⟨.a, 7, .zero, 0, .opened, [5], [0]⟩ } }
     s.Ready [0, 1, 5] ∧ s.lsv.loop ≠ .closed ∧ s.tfu.pass ≠ none) ∧
    (let s := { Tests.full with clp := { Tests.full.clp with
      inExec := some ⟨⟨23, 1, [0, 1, 5]⟩, .pass 0 [5]⟩ } }
     s.clp.inExec = some ⟨⟨23, 1, [0, 1, 5]⟩, .pass 0 [5]⟩) :=
  ⟨⟨by decide +kernel, Tests.ready _ (by decide +kernel), by decide, rfl⟩,
    ⟨Tests.readyRunning _ (by decide), by decide, rfl⟩, ⟨Tests.ready _ (by decide), by decide⟩,
    ⟨⟨rfl, rfl, rfl, rfl, by decide, by decide, by decide⟩, by decide, by decide⟩, rfl⟩

theorem witness_SetLoopEntersARunningState :
    (3 < (4 : Word).toNat ∧ State.reset.Ready [4]) ∧
    (LoopState.held ≠ .stopped ∧ State.reset.Ready [BitVec.ofNat 16 LoopState.held.number]) ∧
    (State.reset.lsv.loop = .stopped ∧ State.reset.Ready [BitVec.ofNat 16 LoopState.stopped.number]) :=
  ⟨⟨by decide, Tests.ready _ (by decide)⟩, ⟨by decide, Tests.ready _ (by decide)⟩, rfl,
    Tests.ready _ (by decide)⟩

/-- With the engine IDLE, and DRAINING. -/
theorem witness_SetLoopStopsEveryBlock :
    (Tests.full.Ready [0] ∧ Tests.full.lsv.loop ≠ .stopped ∧ Tests.full.rce.state = .idle) ∧
    (let s := { Tests.full with rce := { Rce.reset with state := .draining } }
     s.Ready [0] ∧ s.lsv.loop ≠ .stopped ∧ s.rce.state = .draining) ∧
    (let s := { Tests.full with rce := Tests.engine.rce, mmc := Tests.engine.mmc }
     s.Ready [0] ∧ s.lsv.loop ≠ .stopped ∧ s.rce.state = .busy ∧ s.enginePort = true) :=
  ⟨⟨Tests.readyRunning _ (by decide), by decide, rfl⟩,
    ⟨⟨rfl, rfl, rfl, rfl, by decide, by decide, by decide⟩, by decide, rfl⟩,
    ⟨rfl, rfl, rfl, rfl, by decide, by decide, by decide⟩, by decide, rfl, rfl⟩

theorem witness_SetTripReplacesBothLimits :
    State.reset.Ready [255, 1024] ∧ State.reset.Ready [256, 1025] :=
  ⟨Tests.ready _ (by decide), Tests.ready _ (by decide)⟩

theorem witness_CountersAreReadAndCleared :
    (State.reset.Ready [] ∧ State.reset.lsv.loop = .stopped) ∧
      (Tests.full.Ready [] ∧ Tests.full.lsv.loop ≠ .stopped) :=
  ⟨⟨Tests.ready _ (by decide), rfl⟩, Tests.readyRunning _ (by decide), by decide⟩

/-- A window that ends at block 63 with its last block full. -/
theorem witness_SetSensorReplacesTheMapEntry :
    State.reset.Ready [BitVec.ofNat 16 (7 : Link).val, 1, 48, 16, 4096, 1] ∧
      (State.reset.link 7).entry.enabled = false ∧ (Tests.receiving.link 0).entry.enabled = true ∧
      (Tests.receiving.link 0).storing = some .zero ∧
      (7 < (8 : Word).toNat ∧ State.reset.Ready [8, 1, 48, 16, 4096, 1]) :=
  ⟨Tests.ready _ (by decide), by decide +kernel, by decide +kernel, by decide +kernel, by decide,
    Tests.ready _ (by decide)⟩

/-- Out of range; in STOPPED to PACED; to STREAM while running; to IMMEDIATE with the engine IDLE, and BUSY. -/
theorem witness_SetTimingReplacesTheSettings :
    (State.reset.Ready [0, 99, 0, 10, 0] ∧ (99 : Word).toNat < 100) ∧
    (State.reset.Ready [BitVec.ofNat 16 Trigger.paced.number, 100, BitVec.ofNat 16 (edgeNumber .falling), 10,
        BitVec.ofNat 16 ComputeOrder.stream.number] ∧ 100 ≤ (100 : Word).toNat ∧ 10 ≤ (10 : Word).toNat ∧
      State.reset.running = false ∧ Trigger.paced ≠ .immediate) ∧
    (ComputeOrder.stream ≠ Tests.full.ctu.order ∧ Tests.full.running = true) ∧
    (∀ engine ∈ [EngineState.idle, .busy],
      let s := { Tests.full with
        ctu := { Ctu.reset with trigger := .external }, rce := { Rce.reset with state := engine } }
      s.Ready [BitVec.ofNat 16 Trigger.immediate.number, 100, BitVec.ofNat 16 (edgeNumber .rising), 10,
        BitVec.ofNat 16 ComputeOrder.batch.number] ∧ s.ctu.trigger ≠ .immediate ∧
        ComputeOrder.batch = s.ctu.order ∧ s.rce.state = engine) := by
  refine ⟨⟨Tests.ready _ (by decide), by decide⟩, ⟨Tests.ready _ (by decide), by decide⟩, by decide, ?_⟩
  intro engine h
  exact ⟨Tests.readyRunning _ (by decide), (by decide : Trigger.external ≠ .immediate), rfl, rfl⟩

theorem witness_IdentifyReportsThePart : State.reset.Ready [] := Tests.ready _ (by decide)

theorem witness_ReportsReadTheState :
    State.reset.Ready [] ∧ (State.reset.Ready [8] ∧ 7 < (8 : Word).toNat) ∧
      State.reset.Ready [BitVec.ofNat 16 (7 : Link).val] ∧ State.reset.Ready [1, 896, 128] :=
  ⟨Tests.ready _ (by decide), ⟨Tests.ready _ (by decide), by decide⟩, Tests.ready _ (by decide),
    Tests.ready _ (by decide)⟩

theorem witness_FrameRecordsAreTakenOldestFirst :
    (State.reset.Ready [7, 17, 1] ∧ 16 < (17 : Word).toNat) ∧
    (State.reset.Ready [BitVec.ofNat 16 (7 : Link).val, 16, if true = true then 1 else 0] ∧
      1 ≤ (16 : Word).toNat ∧ (16 : Word).toNat ≤ 16) :=
  ⟨⟨Tests.ready _ (by decide), by decide⟩, Tests.ready _ (by decide), by decide⟩

/-- A port in each ring state. -/
def Tests.ring (d : Drp) : State := { Tests.busy with drp := d }

theorem witness_RingPortTakesEachCode :
    ringCodeOf (.ringCode .openSym) = some .openSym ∧ ringCodeOf .ringIdle = some .idle ∧
      ringCodeOf (.ringHeadWord 5) = some (.data 5) ∧ ringCodeOf .ringHead = some .head ∧
      (let s := { State.reset with inReset := true }; s.inReset = true ∧ s.drp.state = .bypass) ∧
      (Tests.busy.inReset = false ∧ Tests.busy.drp.state = .bypass) ∧
      (Tests.ring { Drp.reset with state := .joining }).drp.markPassed = false ∧
      (Tests.ring { Drp.reset with state := .joining, markPassed := true }).drp.state = .joining ∧
      (Tests.ring { Drp.reset with state := .sending, resetEnding := true }).drp.resetEnding = true ∧
      (Tests.ring { Drp.reset with state := .sending }).drp.markSent = false ∧
      (let d := (Tests.ring { Drp.reset with state := .leaving, headOpen := true }).drp
       d.state = .leaving ∧ d.leaveMark = false ∧ d.headOpen = true) ∧
      (let d := (Tests.ring { Drp.reset with state := .listening, headOpen := true }).drp
       d.state = .listening ∧ d.headOpen = true ∧ Code.head ≠ .mark) := by decide +kernel

/-- A queue with the slice of N; with no N; a LISTENING port that has and has not seen a HEAD; a LEAVING port
before and past its MARK; each with a head open. -/
theorem witness_MarksDecideWhatIsSent :
    let x : Slice := ⟨500, false, [1], ⟨0, 1, 0⟩⟩
    (let s := Tests.ring { Drp.reset with
      headOpen := true, state := .onRing, transmit := true, train := some 500, queue := [x] }
     s.inReset = false ∧ s.drp.headOpen = true ∧ s.drp.state = .onRing ∧ s.drp.transmit = true ∧
      s.drp.train = some 500 ∧ (s.drp.queue.find? fun q => q.tag == 500) = some x) ∧
    (let s := Tests.ring { Drp.reset with headOpen := true, state := .onRing }; s.drp.state = .onRing ∧ s.drp.train = none) ∧
    (let s := Tests.ring { Drp.reset with headOpen := true, state := .listening, headSeen := true }
     s.drp.state = .listening ∧ s.drp.headSeen = true) ∧
    (let s := Tests.ring { Drp.reset with headOpen := true, state := .listening }
     s.drp.state = .listening ∧ s.drp.headSeen = false) ∧
    (let s := Tests.ring { Drp.reset with headOpen := true, state := .leaving, leaveMark := true }
     s.drp.state = .leaving ∧ s.drp.leaveMark = true) := by decide +kernel

theorem witness_SendingEndsWithAFreshMark :
    (Tests.busy.inReset = false ∧ Tests.busy.drp.state ≠ .sending) ∧
    (let s := Tests.ring { Drp.reset with state := .sending, unsent := [.openSym, .closeSym] }
     s.inReset = false ∧ s.drp.state = .sending ∧ s.drp.markSent = false) ∧
    (∀ leave ∈ [true, false],
      let s := Tests.ring { Drp.reset with state := .sending, markSent := true, leaveRequested := leave }
      s.inReset = false ∧ ringCodeOf .ringHead = some .head ∧ s.drp.state = .sending ∧
        s.drp.resetEnding = false ∧ s.drp.markSent = true ∧ s.drp.leaveRequested = leave) := by decide +kernel

/-- Any ring state takes the requests; SET_SLICE at the ends of its ranges. -/
theorem witness_RingRequestsActByState :
    (∀ d : Drp, State.Ready { State.reset with drp := d } [] ∧ State.Ready { State.reset with drp := d } [2]) ∧
    State.reset.Ready [7, 1024, 64512] ∧ State.reset.Ready [8, 0, 65535] :=
  ⟨fun _ => ⟨⟨rfl, rfl, rfl, rfl, Nat.zero_lt_succ 15, List.not_mem_nil, by decide⟩,
    ⟨rfl, rfl, rfl, rfl, Nat.zero_lt_succ 15, List.not_mem_nil, by decide⟩⟩,
    Tests.ready _ (by decide), Tests.ready _ (by decide)⟩

/-- Two queued slices on either side of the wrap. -/
theorem witness_SliceQueueAscends :
    let s := Tests.ring { Drp.reset with
      queue := [⟨65535, false, [1], ⟨0, 1, 0⟩⟩, ⟨0, true, [2], ⟨0, 1, 0⟩⟩] }
    s.drp.QueueAscends ∧ ∃ t, step { s with pending := [.filterPassEnd] } = .next t :=
  ⟨⟨by decide, by decide⟩, _, rfl⟩

/-- A store of five slots of three bursts, its record in slot 4 in writing, slots 2 and 3 unread. -/
def Tests.recording : State :=
  { Tests.busy with tmr := { Tmr.reset with
      config := some ⟨1, 2, ⟨true, true, true⟩, 1, .ring, 2⟩
      geometry := some ⟨3, 5, 1, [1, 0, 0, 0, 0, 0, 0, 0]⟩
      unread := [⟨2, 498, ⟨true, false, false⟩⟩, ⟨3, 499, ⟨true, true, true⟩⟩], nextSlot := 4
      writing := some {
        slot := 4, tag := 500, header := List.replicate 32 0, sections := ⟨true, true, true⟩
        buffer := .a, holds := true, residuals := [5], commands := [6], next := 1 } } }

/-- The ENABLE also with a record in writing. -/
theorem witness_TelemetryStoreIsSetUp :
    State.reset.Ready [1, 65535, 0, 1, 7, 1024, 1, 65535] ∧
    (1 < (2 : Word).toNat ∧ State.reset.Ready [2]) ∧ State.reset.Ready [1] ∧
    (State.reset.Ready [0] ∧ State.reset.tmr.config = none) ∧
    (State.Ready { State.reset with tmr := Tests.paged.tmr } [0] ∧
      Tests.paged.tmr.config = some ⟨1, 2, ⟨true, false, false⟩, 1, .ring, 0⟩ ∧
      Tests.paged.tmr.enabled = false) ∧
    (State.Ready { State.reset with tmr := Tests.recording.tmr } [0] ∧ Tests.recording.tmr.writing ≠ none ∧
      Tests.recording.tmr.config = some ⟨1, 2, ⟨true, true, true⟩, 1, .ring, 2⟩ ∧
      Tests.recording.tmr.enabled = false) :=
  ⟨Tests.ready _ (by decide), ⟨by decide, Tests.ready _ (by decide)⟩, Tests.ready _ (by decide),
    ⟨Tests.ready _ (by decide), rfl⟩, ⟨Tests.ready _ (by decide), rfl, rfl⟩,
    Tests.ready _ (by decide), by decide, rfl, rfl⟩

/-- A record due under each row of R157's table; one in writing with bursts left. -/
theorem witness_DueRecordsAreWritten :
    Tests.recording.tmr.geometry = some ⟨3, 5, 1, [1, 0, 0, 0, 0, 0, 0, 0]⟩ ∧
      Tests.recording.tmr.config = some ⟨1, 2, ⟨true, true, true⟩, 1, .ring, 2⟩ ∧
      (∃ w, Tests.recording.tmr.writing = some w ∧ w.next < 3) ∧ Tests.recording.tmr.unread.length < 5 ∧
      (let t := { Tests.recording.tmr with geometry := some ⟨3, 2, 1, [1, 0, 0, 0, 0, 0, 0, 0]⟩, writing := none }
       t.geometry = some ⟨3, 2, 1, [1, 0, 0, 0, 0, 0, 0, 0]⟩ ∧ ¬ t.unread.length < 2 ∧ t.underRead ≠ some 2) ∧
      (let t := { Tests.recording.tmr with underRead := some 2 }; t.underRead = some 2) :=
  ⟨rfl, rfl, ⟨_, rfl, by decide⟩, by decide, by decide, rfl⟩

/-- The last slope burst and the last burst of the slot; nothing in writing; RING, QUEUE and disabled at a
trip. -/
theorem witness_RecordsJoinOrAreCut :
    (∃ w, Tests.recording.tmr.writing = some w ∧ w.holds = true) ∧
      Tests.recording.tmr.geometry = some ⟨3, 5, 1, [1, 0, 0, 0, 0, 0, 0, 0]⟩ ∧
      Tests.recording.tmr.config = some ⟨1, 2, ⟨true, true, true⟩, 1, .ring, 2⟩ ∧
      ((32 + 256 * 1 - 1) / 256 = 1 ∧ 2 + 1 = 3) ∧ Tests.paged.tmr.writing = none ∧
      (let t := { Tests.recording.tmr with enabled := true }
       t.enabled = true ∧ t.config = some ⟨1, 2, ⟨true, true, true⟩, 1, .ring, 2⟩) ∧
      (let c : TelemetryConfig := ⟨1, 2, ⟨true, true, true⟩, 1, .queue, 2⟩
       let t := { Tests.recording.tmr with enabled := true, config := some c }
       t.config = some c ∧ c.mode = .queue) ∧
      Tests.paged.tmr.enabled = false :=
  ⟨⟨_, rfl, rfl⟩, rfl, rfl, by decide, rfl, by decide, by decide, rfl⟩

theorem witness_UnreadRecordsRunThroughTheSlots :
    Tests.recording.tmr.SlotsRun ∧ ∃ t, step { Tests.recording with pending := [.burstGrant] } = .next t := by
  refine ⟨⟨by decide, ?_, by rintro w ⟨⟩; rfl, by decide⟩, _, rfl⟩
  intro i r h
  match i, h with
  | 0, h => cases h; decide
  | 1, h => cases h; decide

/-- One unread record: offset 0 reads it, offset 1 finds none; sections and counts at the ends of their
ranges. -/
theorem witness_TelemetryRecordsAreReadAndReleased :
    let t := { Tests.paged.tmr with
      geometry := some ⟨3, 5, 1, [1, 0, 0, 0, 0, 0, 0, 0]⟩, unread := [⟨4, 500, ⟨true, false, false⟩⟩] }
    let s := { State.reset with tmr := t }
    s.Ready [0, 0, 3, 0, 2048] ∧ (3 : Word).toNat ≤ 3 ∧ (2048 : Word).toNat ≤ 2048 ∧
      s.Ready [0, 1, 4, 0, 0] ∧ 3 < (4 : Word).toNat ∧
      s.tmr.unread.length ≤ 65536 * (0 : Word).toNat + (1 : Word).toNat ∧
      s.tmr.unread[65536 * (0 : Word).toNat + (0 : Word).toNat]? = some ⟨4, 500, ⟨true, false, false⟩⟩ ∧
      s.tmr.config = some ⟨1, 2, ⟨true, false, false⟩, 1, .ring, 0⟩ ∧
      s.tmr.geometry = some ⟨3, 5, 1, [1, 0, 0, 0, 0, 0, 0, 0]⟩ ∧ s.Ready [65535, 65535] :=
  ⟨⟨rfl, rfl, rfl, rfl, by decide, by decide, by decide⟩, by decide, by decide,
    ⟨rfl, rfl, rfl, rfl, by decide, by decide, by decide⟩, by decide, by decide, rfl, rfl, rfl,
    ⟨rfl, rfl, rfl, rfl, by decide, by decide, by decide⟩⟩

theorem witness_ControlReceiverTakesEachCode : Tests.busy.inReset = false := rfl

/-- A good message of RING_JOIN; a bad one; each receiver state; a request that may start, and one that meets
eight in the queue. -/
theorem witness_GoodRequestsAreQueued :
    (Tests.busy.inReset = false ∧ Tests.busy.clp.receiver = .hunt) ∧
      (let s := { Tests.busy with clp := { Tests.busy.clp with receiver := .sync } }; s.clp.receiver = .sync) ∧
      (let c := { Tests.busy.clp with
        receiver := .receiving, buffer := [25, 9, 0, 0, 7], line := ⟨5, 1, 7, 7⟩ }
       let ws := c.buffer
       c.receiver = .receiving ∧ 5 ≤ c.line.count ∧ c.line.prior = c.line.latest ∧
        c.line.count = (packetWord ws 3).toNat + 5 ∧ c.line.count ≤ 2053 ∧ (packetWord ws 0).toNat < 16384 ∧
        (Instr.ringJoin 9 []).request? = some ((packetWord ws 0).toNat % 256, packetWord ws 1,
          (ws.drop 4).take (packetWord ws 3).toNat)) ∧
      (let c := { Tests.busy.clp with receiver := .receiving, line := ⟨4, 1, 7, 7⟩ }; ¬ 5 ≤ c.line.count) ∧
      (let c := { Tests.full.clp with requests := [⟨0, 9, []⟩] }
       c.requests = ⟨0, 9, []⟩ :: [] ∧ c.inExec = none ∧ c.resetInHand = false ∧ c.replies.length < 16) ∧
      (let c := { Tests.full.clp with
        requests := List.replicate 8 ⟨0, 9, []⟩, inExec := some ⟨⟨11, 1, [0]⟩, .engine .closed⟩ }
       c.inExec = some ⟨⟨11, 1, [0]⟩, .engine .closed⟩ ∧ ¬ c.requests.length < 8) := by decide +kernel

/-- The last two: a full reply queue with the transmitter free, and a message that ends while reset in hand is
set. -/
theorem witness_ArbiterPrefersReplies :
    (let c := { Tests.busy.clp with sending := none, replies := List.replicate 16 (.ready ⟨0, 1, .ok, []⟩) }
     16 ≤ c.replies.length ∧ c.inExec = none ∧ c.sending = none ∧
      c.replies = .ready ⟨0, 1, .ok, []⟩ :: List.replicate 15 (.ready ⟨0, 1, .ok, []⟩)) ∧
    (let c := { Tests.busy.clp with resetInHand := true, sending := some (.reply ⟨0, 1, .ok, []⟩) }
     c.sending = some (.reply ⟨0, 1, .ok, []⟩) ∧
      ∀ tag ws, (Sending.reply ⟨0, 1, .ok, []⟩) ≠ .reply ⟨5, tag, .ok, ws⟩) ∧
    (Tests.busy.clp.sending = some (.notice ⟨.ringState 0 true, 1⟩) ∧ Tests.busy.clp.resetInHand = false) ∧
    (State.reset.clp.sending = none ∧ State.reset.clp.replies = [] ∧ State.reset.clp.notices = []) ∧
    (let c := { Clp.reset with replies := [.ready ⟨0, 1, .ok, []⟩, .pending], notices := [⟨.ringState 0 true, 1⟩] }
     c.sending = none ∧ c.replies = .ready ⟨0, 1, .ok, []⟩ :: [.pending]) ∧
    (let c := { Clp.reset with replies := [.pending], notices := [⟨.ringState 0 true, 1⟩] }
     c.sending = none ∧ c.replies.head? = some .pending ∧ c.notices = ⟨.ringState 0 true, 1⟩ :: []) := by
  refine ⟨by decide, ⟨rfl, ?_⟩, by decide, by decide, by decide, by decide⟩
  rintro tag ws ⟨⟩

theorem witness_SetNoticesReplacesTheMask :
    State.reset.Ready [511] ∧ State.reset.Ready [512] ∧
      (let s := { State.reset with clp := { Clp.reset with mask := 0 } }
       s.clp.mask.getLsbD (NoticePayload.ringState 0 true).kind.number = false) ∧
      (State.reset.clp.mask.getLsbD (NoticePayload.ringState 0 true).kind.number = true ∧
        ∀ n ∈ State.reset.clp.notices, n.payload.kind ≠ (NoticePayload.ringState 0 true).kind) ∧
      (let ns : List Notice := [⟨.telemetryLevel 1 2, 1⟩, ⟨.ringState 0 false, 65535⟩]
       ns = [⟨.telemetryLevel 1 2, 1⟩] ++ ⟨.ringState 0 false, 65535⟩ :: [] ∧
        (∀ m ∈ [(⟨.telemetryLevel 1 2, 1⟩ : Notice)], m.payload.kind ≠ (NoticePayload.ringState 0 true).kind) ∧
        (NoticePayload.ringState 0 false).kind = (NoticePayload.ringState 0 true).kind) :=
  ⟨Tests.ready _ (by decide), Tests.ready _ (by decide), by decide, by decide, by decide⟩

theorem witness_WrongLengthsReachNoBlock :
    ((Instr.setSensor 1 [0, 1, 0, 1, 4]).wellFormed = true ∧
      (Instr.setSensor 1 [0, 1, 0, 1, 4]).request? = some (6, 1, [0, 1, 0, 1, 4]) ∧ fixedWords 6 = some 6 ∧
      ([0, 1, 0, 1, 4] : List Word).length ≠ 6 ∧ State.reset.Ready [0, 1, 0, 1, 4]) ∧
    (32 ≤ 255 ∧ 255 < 256 ∧ State.reset.Ready []) ∧
    (State.reset.Ready [1, 0, 0] ∧ [(1 : Word), 0, 0].length < 4) ∧
    (State.reset.Ready (List.replicate 1029 0) ∧ 1028 < (List.replicate 1029 (0 : Word)).length) ∧
    (State.reset.Ready [0, 1, 0] ∧ [(0 : Word), 1, 0].length ≠ 2 + 6 * (1 : Word).toNat ∧
      [(0 : Word), 1, 0].length ≠ 3 + 3 * (1 : Word).toNat) ∧
    (State.reset.Ready [0, 2, 7] ∧ [(0 : Word), 2, 7].length ≠ 2 + (2 : Word).toNat) ∧
    (Tests.paged.Ready [1, 0, 4, 4, 9] ∧ [(9 : Word)].length ≠ 256 * (4 : Word).toNat ∧
      (1 : Word).toNat ≤ 1 ∧ (0 : Word).toNat ≤ 63 ∧ 1 ≤ (4 : Word).toNat ∧ (4 : Word).toNat ≤ 4 ∧
      BankId.one ≠ Tests.paged.mmc.active ∧ Tests.paged.mmc.swap ≠ some .one ∧
      (Tests.paged.entry .one (0 : Word).toNat).present = true ∧
      ((4 : Word).toNat + (4 : Word).toNat) * 512 ≤ (Tests.paged.entry .one (0 : Word).toNat).pages * 4096) :=
  ⟨⟨by decide, by decide, by decide, by decide, Tests.ready _ (by decide)⟩,
    ⟨by decide, by decide, Tests.ready _ (by decide)⟩, ⟨Tests.ready _ (by decide), by decide⟩,
    ⟨Tests.ready _ (by decide +kernel), by decide +kernel⟩, ⟨Tests.ready _ (by decide), by decide, by decide⟩,
    ⟨Tests.ready _ (by decide), by decide⟩,
    ⟨rfl, rfl, rfl, rfl, Nat.zero_lt_succ 15, List.not_mem_nil, by decide⟩, by decide +kernel⟩

theorem witness_ControlQueuesStayBounded :
    let s := { Tests.busy with clp := { Tests.busy.clp with
      requests := List.replicate 8 ⟨0, 9, []⟩, replies := .pending :: List.replicate 15 (.ready ⟨0, 1, .ok, []⟩)
      inExec := some ⟨⟨0, 2, []⟩, .now⟩, notices := [⟨.ringState 0 true, 1⟩] } }
    s.clp.Bounded ∧ ∃ t, step { s with pending := [.controlMessageClose] } = .next t :=
  ⟨⟨by decide, by decide, by decide, by decide, by decide, by decide, by decide⟩, _, rfl⟩

theorem witness_HardResetRestartsThePart :
    (let s := { State.reset with inReset := true }
     s.inReset = true ∧ Instr.copyGrant ≠ .hardReset ∧ Instr.copyGrant ≠ .hardResetEnd ∧
      ringCodeOf .copyGrant = none ∧ ringCodeOf .ringMark = some .mark) ∧ State.reset.inReset = false := by decide

theorem witness_SoftResetTakesEffectAtItsReply :
    State.reset.Ready [] ∧ (State.reset.inReset = false ∧ State.reset.clp.resetInHand = false) ∧
    (let s := { Tests.receiving with
      clp := { Clp.reset with resetInHand := true, sending := some (.reply ⟨5, 1, .ok, []⟩) }
      drp := { Drp.reset with state := .sending, resetEnding := true, unsent := [.abort] } }
     s.inReset = false ∧ s.clp.resetInHand = true ∧ s.clp.sending = some (.reply ⟨5, 1, .ok, []⟩) ∧
      s.drp.state = .sending ∧ s.drp.markSent = false ∧ s.drp.resetEnding = true) :=
  ⟨Tests.ready _ (by decide), by decide, by decide⟩

theorem witness_CyclesStayAccounted :
    let s := { Tests.opened with lsv := { Tests.opened.lsv with
      counts := { CycleCounts.zero with opened := 3, completed := 1, abandoned := 1 } } }
    s.CyclesAccounted ∧ ∃ t, step { s with pending := [.deadlineExpiry] } = .next t := by
  refine ⟨⟨rfl, ?_, .inl rfl, ?_, ?_⟩, _, rfl⟩
  · intro x; cases x <;> decide
  · rintro p ⟨⟩
  · intro h; exact absurd h (by decide)
end

section
/-! PROOF. The sensor links' statements about the expected slope count of a block (R16) and the CRC (R3), with
the lemmas that say what each function they name does. -/

namespace Sys2Proof.Machine

/-! ### The expected slope count of a block (R16) -/

theorem MapEntry.expected_of_not_last {e : MapEntry} {b : Nat} (h : b + 1 < e.blocks) : e.expected b = 256 :=
  if_pos h

theorem MapEntry.expected_of_last {e : MapEntry} {b : Nat} (h : e.blocks = b + 1) :
    e.expected b = e.slopes - 256 * b := by
  simp [MapEntry.expected, h]

/-- Check 4 of R13 keeps the expected count between 1 and 256. -/
theorem MapEntry.expected_bounds {e : MapEntry} (hlow : 256 * (e.blocks - 1) < e.slopes)
    (hhigh : e.slopes ≤ 256 * e.blocks) {b : Nat} (hb : b < e.blocks) :
    1 ≤ e.expected b ∧ e.expected b ≤ 256 := by
  by_cases hlast : b + 1 < e.blocks
  · rw [MapEntry.expected_of_not_last hlast]
    decide
  · have hblocks : e.blocks = b + 1 := by omega
    rw [MapEntry.expected_of_last hblocks]
    rw [hblocks] at hlow hhigh
    omega

/-- The full blocks before the last carry 256 slopes each, the last the rest. -/
theorem MapEntry.sum_expected {e : MapEntry} (hblocks : 1 ≤ e.blocks) (hlow : 256 * (e.blocks - 1) < e.slopes) :
    ((List.range e.blocks).map e.expected).sum = e.slopes := by
  obtain ⟨n, hn⟩ : ∃ n, e.blocks = n + 1 := ⟨e.blocks - 1, by omega⟩
  have hfull : (List.range n).map e.expected = List.replicate n 256 := by
    rw [List.map_eq_replicate_iff.mpr, List.length_range]
    intro b hb
    have hbn := List.mem_range.mp hb
    exact MapEntry.expected_of_not_last (by omega)
  rw [hn, List.range_succ, List.map_append, List.sum_append_nat, hfull, List.sum_replicate_nat, List.map_cons,
    List.map_nil, List.sum_cons, List.sum_nil, MapEntry.expected_of_last hn]
  rw [hn] at hlow
  omega

/-- A packet that passes checks 1 to 5 of R15 and fails the sixth fails with a length error. -/
theorem packetFault_eq_lengthError {l : Nat} {e : MapEntry} {line : LineCheck} {ws : List Word}
    (hlow : 5 ≤ line.count) (hhigh : line.count ≤ 261) (hcrc : line.crcPasses = true)
    (hcount : line.count = packetSlopes ws + 5) (hsensor : packetSensor ws = l)
    (hblock : packetBlock ws < e.blocks) (hslopes : packetSlopes ws ≠ e.expected (packetBlock ws)) :
    packetFault l e line ws = some .lengthError := by
  have hlength : ¬(261 < line.count ∨ line.count ≠ packetSlopes ws + 5) := by omega
  rw [packetFault, if_neg (by omega), if_neg (by simp [hcrc]), if_neg hlength, if_neg (by simp [hsensor]),
    if_neg (by omega), if_pos hslopes]

/-! ### The slots of a stored block (R31) -/

theorem blockSlopes_length (payload : List Word) : (blockSlopes payload).length = 256 := by
  rw [blockSlopes, List.length_take, List.length_append, List.length_replicate]
  omega

/-- A slot holds the packet's slope of its place, and 0 beyond the packet's slopes. -/
theorem blockSlopes_getElem? (payload : List Word) {j : Nat} (hj : j < 256) :
    (blockSlopes payload)[j]? = some ((payload[j]?).getD 0) := by
  rw [blockSlopes, List.getElem?_take_of_lt hj]
  by_cases hin : j < payload.length
  · rw [List.getElem?_append_left hin, List.getElem?_eq_getElem hin, Option.getD_some]
  · have hpad : j - payload.length < 256 := by omega
    rw [List.getElem?_append_right (by omega), List.getElem?_replicate_of_lt hpad,
      List.getElem?_eq_none (by omega), Option.getD_none]

/-! ### The CRC register (R3) -/

theorem crcBit_eq (r : Word) (b : Bool) :
    crcBit r b = if b = r.msb then r <<< 1 else (r <<< 1) ^^^ 0x1021 := by
  by_cases h : b = r.msb <;> simp [crcBit, h]

/-- The bits of a word in the order `crcWord` takes them, counted from the least significant end or from the
most significant one. -/
theorem word_bits_msb_first (w : Word) :
    [15, 14, 13, 12, 11, 10, 9, 8, 7, 6, 5, 4, 3, 2, 1, 0].map (fun i => w.getLsbD i) =
      (List.range 16).map fun i => w.getMsbD i := by
  have hplaces : [15, 14, 13, 12, 11, 10, 9, 8, 7, 6, 5, 4, 3, 2, 1, 0] = (List.range 16).map (15 - ·) := by
    decide
  rw [hplaces, List.map_map]
  refine List.map_congr_left fun i hi => ?_
  simp [BitVec.getMsbD_eq_getLsbD, List.mem_range.mp hi]

theorem crcWord_eq (r w : Word) :
    crcWord r w = ((List.range 16).map fun i => w.getMsbD i).foldl crcBit r := by
  rw [← word_bits_msb_first, List.foldl_map, crcWord]

/-! ### The running checks of a packet (R2, R3) -/

@[simp] theorem LineCheck.take_count (x : LineCheck) (w : Word) : (x.take w).count = x.count + 1 := rfl
@[simp] theorem LineCheck.take_crc (x : LineCheck) (w : Word) : (x.take w).crc = crcWord x.crc w := rfl

theorem LineCheck.foldl_take_count (ws : List Word) (x : LineCheck) :
    (ws.foldl LineCheck.take x).count = x.count + ws.length := by
  induction ws generalizing x with
  | nil => rfl
  | cons w ws ih =>
    rw [List.foldl_cons, ih, List.length_cons, LineCheck.take_count]
    omega

theorem LineCheck.foldl_take_crc (ws : List Word) (x : LineCheck) :
    (ws.foldl LineCheck.take x).crc = ws.foldl crcWord x.crc := by
  induction ws generalizing x with
  | nil => rfl
  | cons w ws ih => rw [List.foldl_cons, ih, List.foldl_cons, LineCheck.take_crc]

/-- The last word is compared with the register as it stood before that word. -/
theorem LineCheck.crcPasses_take_iff (x : LineCheck) (w : Word) :
    (x.take w).crcPasses = true ↔ x.crc = w := by
  rw [LineCheck.crcPasses, LineCheck.take, beq_iff_eq]

theorem LineCheck.crcPasses_of_packet_iff (ws : List Word) (w : Word) :
    ((ws ++ [w]).foldl LineCheck.take .start).crcPasses = true ↔ crcOf ws = w := by
  have hcrc : (ws.foldl LineCheck.take .start).crc = crcOf ws := LineCheck.foldl_take_crc ws .start
  rw [List.foldl_append, List.foldl_cons, List.foldl_nil, LineCheck.crcPasses_take_iff, hcrc]

theorem LineCheck.count_of_packet (ws : List Word) : (ws.foldl LineCheck.take .start).count = ws.length := by
  rw [LineCheck.foldl_take_count, LineCheck.start, Nat.zero_add]

/-! ### The statements -/

/-- Settles O8: the cases of the expected count, the full blocks' sum, the checks of R15 in order, and the
padding of a stored block. -/
theorem expectedSlopeCountOfABlock : Obligations.ExpectedSlopeCountOfABlock := by
  refine ⟨fun e hblocks hlow hhigh => ⟨fun b hb => ⟨rfl, MapEntry.expected_bounds hlow hhigh hb⟩,
    MapEntry.sum_expected hblocks hlow⟩, ?_, ?_⟩
  · intro l e line ws hlow hhigh hcrc hcount hsensor hblock hslopes
    exact packetFault_eq_lengthError hlow hhigh hcrc hcount hsensor hblock hslopes
  · exact fun payload _ => ⟨blockSlopes_length payload, fun j hj => blockSlopes_getElem? payload hj⟩

/-- Settles O9: the running check's register follows `crcWord` over the words taken, by induction on the
words, and the last word is compared with the register before it. -/
theorem crcIsOfAllWordsButTheLast : Obligations.CrcIsOfAllWordsButTheLast := by
  refine ⟨crcBit_eq, crcWord_eq, fun _ => rfl, fun ws w => ⟨?_, LineCheck.crcPasses_of_packet_iff ws w⟩⟩
  rw [LineCheck.count_of_packet, List.length_append, List.length_singleton]

end Sys2Proof.Machine
end

section
/-! PROOF. The loop supervisor's statement about the trip limits (R129) and what a SKIPPED and a COMPLETED
outcome do (R125, R126, R128), with the lemmas that say what each function it names does. -/

namespace Sys2Proof.Machine

/-! ### SET_TRIP (R129) -/

theorem State.setTrip_of_out_of_range {k n : Word} (h : 255 < k.toNat ∨ 1024 < n.toNat) (s : State) :
    State.setTrip [k, n] s = s.complete .invalid [] := if_pos h

theorem State.setTrip_of_in_range {k n : Word} (h : ¬(255 < k.toNat ∨ 1024 < n.toNat)) (s : State) :
    State.setTrip [k, n] s =
      (s.updLsv fun v => { v with skipLimit := k.toNat, saturationLimit := n.toNat }).complete .ok [] := if_neg h

/-- A SET_TRIP that starts as it arrives is carried out and answered at once. -/
theorem exec_setTrip_of_ready {s : State} {k n : Word} (h : s.Ready [k, n]) (tag : Word) :
    exec (.setTrip tag [k, n]) s = .next (State.transmit
      (if 255 < k.toNat ∨ 1024 < n.toNat then s.answered 12 tag .invalid []
      else State.answered { s with lsv := { s.lsv with
        skipLimit := k.toNat, saturationLimit := n.toNat } } 12 tag .ok [])) := by
  have hexec : exec (.setTrip tag [k, n]) s =
      .next (State.setTrip [k, n] (s.started 12 tag [k, n] .now)).transmit := request_of_ready h 12 tag
  rw [hexec]
  by_cases hrange : 255 < k.toNat ∨ 1024 < n.toNat
  · rw [State.setTrip_of_out_of_range hrange, State.complete_started h, if_pos hrange]
  · rw [State.setTrip_of_in_range hrange,
      State.complete_of_clp h (State.updLsv_clp (s.started 12 tag [k, n] .now) _), if_neg hrange]
    rfl

/-! ### The two trips (R125, R126) -/

theorem Lsv.skipTrips_iff (v : Lsv) :
    v.skipTrips = true ↔ v.loop = .closed ∧ v.skipLimit ≠ 0 ∧ v.skipLimit ≤ (satSucc v.skips).toNat := by
  simp [Lsv.skipTrips, and_assoc]

theorem Lsv.saturationTrips_iff (v : Lsv) (saturated : Nat) :
    v.saturationTrips saturated = true ↔
      v.loop = .closed ∧ v.saturationLimit ≠ 0 ∧ v.saturationLimit ≤ saturated := by
  simp [Lsv.saturationTrips, and_assoc]

/-! ### The outcomes (R125, R126, R128) -/

/-- One of the two skipped counts rises by one, the other by nothing. -/
theorem countSkip_eq (cause : SkipCause) (c : CycleCounts) :
    countSkip cause c = { c with
      skippedMissing := c.skippedMissing + (if cause = .missing then 1 else 0)
      skippedMemory := c.skippedMemory + (if cause = .memory then 1 else 0) } := by
  cases cause <;> simp [countSkip]

theorem State.superviseSkip_eq (s : State) (tag : Word) (cause : SkipCause) :
    let n := satSucc s.lsv.skips
    let t := State.raise { s with lsv := { s.lsv with skips := n, counts := countSkip cause s.lsv.counts } }
      (.cycleSkipped tag cause n)
    s.superviseSkip tag cause =
      if s.lsv.loop = .closed ∧ s.lsv.skipLimit ≠ 0 ∧ s.lsv.skipLimit ≤ n.toNat then
        t.trip .skips tag n.toNat s.lsv.skipLimit
      else t :=
  ite_congr (propext s.lsv.skipTrips_iff) (fun _ => rfl) fun _ => rfl

theorem State.superviseCompletion_eq (s : State) (tag : Word) (saturated adjustments : Nat) :
    let c := s.lsv.counts
    let t : State := { s with lsv := { s.lsv with
      skips := 0
      counts := { c with
        completed := c.completed + 1
        actuatorSaturations := addCount c.actuatorSaturations saturated
        pairAdjustments := addCount c.pairAdjustments adjustments } } }
    s.superviseCompletion tag saturated adjustments =
      if s.lsv.loop = .closed ∧ s.lsv.saturationLimit ≠ 0 ∧ s.lsv.saturationLimit ≤ saturated then
        t.trip .saturation tag saturated s.lsv.saturationLimit
      else t :=
  ite_congr (propext (s.lsv.saturationTrips_iff saturated)) (fun _ => rfl) fun _ => rfl

theorem State.giveSkip_eq (s : State) (x : BufferId) (cause : SkipCause) (r : CycleReport) :
    let tag := (s.desc x).tag
    let t := (s.updDesc x fun d => { d with outcome := some .skipped, skip := some cause }).superviseSkip tag cause
    s.giveSkip x cause r =
      if s.lsv.loop = .closed ∧ s.lsv.skipLimit ≠ 0 ∧ s.lsv.skipLimit ≤ (satSucc s.lsv.skips).toNat then
        (t.recordOutcome x r).freeze .skips tag
      else t.recordOutcome x r :=
  ite_congr (propext s.lsv.skipTrips_iff) (fun _ => rfl) fun _ => rfl

/-! ### The limits at a reset (R129, R133) -/

@[simp] theorem State.hardResetAll_lsv (s : State) : s.hardResetAll.lsv = Lsv.reset := rfl

@[simp] theorem State.softResetAll_lsv (s : State) :
    s.softResetAll.lsv =
      { Lsv.reset with skipLimit := s.lsv.skipLimit, saturationLimit := s.lsv.saturationLimit } := rfl

/-! ### The statement -/

/-- Settles O35: a request that starts as it arrives, the two trip conditions read out of the supervisor, and
the limits that the two resets leave. -/
theorem setTripReplacesBothLimits : Obligations.SetTripReplacesBothLimits := by
  refine ⟨fun s tag k n hready => exec_setTrip_of_ready hready tag, ?_, State.superviseCompletion_eq,
    State.giveSkip_eq, ?_⟩
  · intro s tag cause
    dsimp only
    rw [← countSkip_eq]
    exact s.superviseSkip_eq tag cause
  · intro s
    rw [State.hardResetAll_lsv, State.softResetAll_lsv]
    exact ⟨rfl, rfl, rfl, rfl⟩

end Sys2Proof.Machine
end

section
/-! PROOF. The control link port's own requests: IDENTIFY (R174) and SET_NOTICES (R172), with what raising a
notice does to the notice list (R171) and what the two resets leave of the port. -/

namespace Sys2Proof.Machine

/-! ### The resets' marks (R172, R174, R177) -/

@[simp] theorem State.hardResetAll_clp (s : State) : s.hardResetAll.clp = Clp.reset := rfl

@[simp] theorem State.hardResetAll_ctu (s : State) : s.hardResetAll.ctu = Ctu.reset := rfl

@[simp] theorem State.softResetAll_clp (s : State) : s.softResetAll.clp = s.clp.softReset s.ctu.timebase := rfl

@[simp] theorem State.softResetAll_ctu (s : State) : s.softResetAll.ctu = s.ctu.softReset := rfl

/-- A soft reset that starts the pace timer again starts it from the new timebase. -/
theorem Ctu.softReset_timebase (c : Ctu) : c.softReset.timebase = 0 := by
  unfold Ctu.softReset
  split <;> rfl

/-! ### IDENTIFY (R174) -/

theorem word2_toNat (t : Time) : word2 t.toNat = [t.extractLsb' 16 16, t.extractLsb' 0 16] := by
  simp [word2, BitVec.extractLsb', Nat.shiftRight_eq_div_pow]

theorem ResetKind.ofNat_number (k : ResetKind) : BitVec.ofNat 16 k.number = if k = .soft then 1 else 0 := by
  cases k <;> rfl

theorem State.identity_eq (s : State) :
    s.identity = [0x4E4A, 0x1610, 1, 8, 1024, 2, 0, 2048, if s.clp.lastReset = .soft then 1 else 0,
      s.clp.resetPoint.extractLsb' 16 16, s.clp.resetPoint.extractLsb' 0 16] := by
  rw [State.identity, word2_toNat, word1, word1, word1, ResetKind.ofNat_number]
  rfl

/-- Taking a request into execution leaves what IDENTIFY reports. -/
theorem State.identity_started (s : State) (code : Nat) (tag : Word) (payload : List Word) (job : Job) :
    (s.started code tag payload job).identity = s.identity := rfl

/-- An IDENTIFY that starts as it arrives is answered at once. -/
theorem exec_identify_of_ready {s : State} (h : s.Ready []) (tag : Word) :
    exec (.identify tag []) s = .next (s.answered 0 tag .ok s.identity).transmit := by
  have hexec : exec (.identify tag []) s =
      .next (State.identify [] (s.started 0 tag [] .now)).transmit := request_of_ready h 0 tag
  rw [hexec, State.identify, State.identity_started, State.complete_started h]

/-- Settles O39: a request that starts as it arrives, the words of the identity, and the marks that the two
resets leave. -/
theorem identifyReportsThePart : Obligations.IdentifyReportsThePart := by
  refine ⟨fun s tag hready => ?_, fun s => ?_⟩
  · rw [exec_identify_of_ready hready, State.identity_eq]
  · rw [State.hardResetAll_clp, State.hardResetAll_ctu, State.softResetAll_clp, State.softResetAll_ctu,
      Ctu.softReset_timebase]
    exact ⟨rfl, rfl, rfl, rfl, rfl, rfl⟩

/-! ### The notice mask (R172) -/

theorem NoticeKind.number_lt (k : NoticeKind) : k.number < 9 := by
  cases k <;> decide

/-- Each kind has its own bit among the nine that a mask word keeps. -/
theorem inMask_setWidth (m : Word) (k : NoticeKind) : inMask (m.setWidth 9) k = m.getLsbD k.number := by
  simp [inMask, k.number_lt]

/-- All nine kinds are in the mask after a hard reset. -/
theorem inMask_reset (k : NoticeKind) : inMask Clp.reset.mask k = true := by
  cases k <;> decide

/-! ### SET_NOTICES (R172) -/

/-- What SET_NOTICES with a mask in range makes of the control link port (R172). -/
def Clp.setMask (m : Word) (c : Clp) : Clp :=
  { c with mask := m.setWidth 9, notices := c.notices.filter fun n => m.getLsbD n.payload.kind.number }

theorem State.setNotices_of_out_of_range {m : Word} (h : 512 ≤ m.toNat) (s : State) :
    State.setNotices [m] s = s.complete .invalid [] := if_pos h

theorem State.setNotices_of_in_range {m : Word} (h : ¬512 ≤ m.toNat) (s : State) :
    State.setNotices [m] s = (s.updClp (·.setMask m)).complete .ok [] := by
  simp only [State.setNotices, if_neg h, BitVec.ofNat_toNat, inMask_setWidth, Clp.setMask]

/-- The mask and the notice list do not decide whether a request may start. -/
theorem State.Ready.updClp_setMask {s : State} {payload : List Word} (h : s.Ready payload) (m : Word) :
    (s.updClp (·.setMask m)).Ready payload := h

theorem State.started_updClp_setMask (s : State) (code : Nat) (tag : Word) (payload : List Word) (job : Job)
    (m : Word) : (s.started code tag payload job).updClp (·.setMask m) =
      (s.updClp (·.setMask m)).started code tag payload job := rfl

/-- A SET_NOTICES that starts as it arrives is carried out and answered at once. -/
theorem exec_setNotices_of_ready {s : State} {m : Word} (h : s.Ready [m]) (tag : Word) :
    exec (.setNotices tag [m]) s = .next (State.transmit
      (if 512 ≤ m.toNat then s.answered 4 tag .invalid []
      else (s.updClp (·.setMask m)).answered 4 tag .ok [])) := by
  have hexec : exec (.setNotices tag [m]) s =
      .next (State.setNotices [m] (s.started 4 tag [m] .now)).transmit := request_of_ready h 4 tag
  rw [hexec]
  by_cases hrange : 512 ≤ m.toNat
  · rw [State.setNotices_of_out_of_range hrange, State.complete_started h, if_pos hrange]
  · rw [State.setNotices_of_in_range hrange, State.started_updClp_setMask,
      State.complete_started (h.updClp_setMask m), if_neg hrange]

/-! ### Raising a notice (R171) -/

theorem satSucc_eq (w : Word) : satSucc w = if w = 65535 then 65535 else w + 1 :=
  ite_congr rfl id fun _ => rfl

theorem addNotice_of_new {p : NoticePayload} {ns : List Notice} (h : ∀ n ∈ ns, n.payload.kind ≠ p.kind) :
    addNotice p ns = ns ++ [⟨p, 1⟩] := by
  induction ns with
  | nil => rfl
  | cons n ns ih =>
    obtain ⟨hn, hns⟩ := List.forall_mem_cons.mp h
    rw [addNotice, if_neg hn, ih hns, List.cons_append]

/-- The first entry of the notice's kind takes the new payload in its place, one more in its count. -/
theorem addNotice_of_present {p : NoticePayload} {before : List Notice} {n : Notice}
    (h : ∀ m ∈ before, m.payload.kind ≠ p.kind) (hn : n.payload.kind = p.kind) (after : List Notice) :
    addNotice p (before ++ n :: after) = before ++ ⟨p, satSucc n.count⟩ :: after := by
  induction before with
  | nil => exact if_pos hn
  | cons m before ih =>
    obtain ⟨hm, hbefore⟩ := List.forall_mem_cons.mp h
    rw [List.cons_append, addNotice, if_neg hm, ih hbefore, List.cons_append]

theorem State.raise_of_not_inMask {s : State} {p : NoticePayload} (h : inMask s.clp.mask p.kind = false) :
    s.raise p = s := by
  rw [State.raise_eq, h]
  rfl

theorem State.raise_of_inMask {s : State} {p : NoticePayload} (h : inMask s.clp.mask p.kind = true) :
    s.raise p = { s with clp := { s.clp with notices := addNotice p s.clp.notices } } := by
  rw [State.raise_eq, if_pos h]

/-- Settles O55: a request that starts as it arrives, the notice list's two cases of a kind that is in the
mask, and the mask that the two resets leave. -/
theorem setNoticesReplacesTheMask : Obligations.SetNoticesReplacesTheMask := by
  refine ⟨fun s tag m hready => exec_setNotices_of_ready hready tag, fun s p => State.raise_of_not_inMask,
    ?_, fun s k => ⟨inMask_reset k, rfl⟩, ?_⟩
  · intro s p hmask hnew
    rw [State.raise_of_inMask hmask, addNotice_of_new hnew]
  · intro s p before after n hmask hlist hbefore hn
    rw [State.raise_of_inMask hmask, hlist, addNotice_of_present hbefore hn, satSucc_eq]

end Sys2Proof.Machine
end

section
/-! PROOF. What a step can do, said once. `Effect s t` lists the own effects of the events, `CarriedOut s t`
those of the requests, with the facts each has checked; `StepClosed I` says that a property of the state is
kept by each of them, and `StepClosed.step` that it is then kept by every step. -/

namespace Sys2Proof.Machine

/-! ### The own effect of an event -/

/-- `t` is what an event makes of `s` before `settle` follows it. -/
inductive Effect (s : State) : State → Prop
  | unchanged : Effect s s
  | sensorIdle (l : Link) : Effect s (s.sensorIdle l)
  | sensorOpen (l : Link) : Effect s (s.updLink l (·.takeOpen))
  | sensorWord (l : Link) (w : Word) : Effect s (s.updLink l (·.takeWord w))
  | sensorClose (l : Link) : Effect s (s.updLink l (·.takeClose l))
  | sensorLoss (l : Link) (cause : LossCause) : Effect s (s.sensorLoss l cause)
  | grantCopy : Effect s s.grantCopy
  | endCopy : Effect s s.endCopy
  | deadline (p : Time) : Effect s (s.updCtu fun c => { c with timebase := p }).deadlineExpires
  | pace (p : Time) : Effect s ((s.updCtu fun c => { c with timebase := p }).paceExpires p)
  | syncLevel (b : Bool) : Effect s (s.updCtu fun c => { c with syncLevel := b })
  | syncTick (b : Bool) : Effect s (s.updCtu fun c => { c with syncLevel := b }).tick
  | endPass : Effect s s.endPass
  | grantBurst : Effect s s.grantBurst
  | endBurst (first : Bool) (errors : List BitError) : Effect s (s.endBurst first errors)
  | ringReceive (c : Code) : Effect s (s.ringReceive c)
  | freshMark : Effect s s.sendFreshMark
  | controlIdle : Effect s (s.updClp Clp.takeIdle)
  | controlOpen : Effect s (s.updClp Clp.takeOpen)
  | controlWord (w : Word) : Effect s (s.updClp (·.takeWord w))
  | controlClose : Effect s (s.updClp Clp.takeClose)
  | controlLoss : Effect s (s.updClp Clp.loseLine)
  | arrival (r : Request) : Effect s (s.updClp (·.takeRequest r))
  | messageSent : Effect s s.finishMessage
  | tickPasses : Effect s s.tickPasses

/-- What one command can make of a state: nothing, an event's effect with `settle` after it, a ring code passed
on under a reset, or one of the two ends of a hard reset. -/
inductive Executed (s : State) : State → Prop
  | held : Executed s s
  | settled {t : State} (h : Effect s t) : Executed s t.settle
  | ringUnderReset (c : Code) : Executed s (s.ringReceive c)
  | hardReset : Executed s s.hardResetAll
  | leaveReset : Executed s s.leaveReset

theorem Executed.of_hardReset {s t : State} (h : execHardReset s = .next t) : Executed s t := by
  rw [execHardReset, Host.Outcome.next.injEq] at h
  exact h ▸ .hardReset

theorem Executed.of_hardResetEnd {s t : State} (h : execHardResetEnd s = .next t) : Executed s t := by
  rw [execHardResetEnd, Host.Outcome.next.injEq] at h
  exact h ▸ .leaveReset

theorem Executed.of_act {s t : State} {f : State → State} (h : act f s = .next t) (hf : Effect s (f s)) :
    Executed s t := by
  unfold act at h
  injection h with h
  subst h
  split
  · exact .held
  · exact .settled hf

theorem Executed.of_ringAct {s t : State} {c : Code} (h : ringAct (·.ringReceive c) s = .next t) :
    Executed s t := by
  unfold ringAct at h
  injection h with h
  subst h
  split
  · exact .ringUnderReset c
  · exact .settled (.ringReceive c)

theorem Effect.ifElse {s a b : State} {p : Prop} [Decidable p] (ha : Effect s a) (hb : Effect s b) :
    Effect s (if p then a else b) := by
  split
  · exact ha
  · exact hb

theorem Executed.of_request {s t : State} {code : Nat} {tag : Word} {payload : List Word}
    (h : request code tag payload s = .next t) : Executed s t :=
  .of_act h (.ifElse (.arrival _) .unchanged)

theorem Executed.of_strayCode {s t : State} {l : Link} {c : StrayCode}
    (h : execSensorStrayCode l c s = .next t) : Executed s t := by
  cases c with
  | word w => exact .of_act h (.sensorWord l w)
  | closeSym => exact .of_act h (.sensorClose l)

theorem Executed.of_controlStrayCode {s t : State} {c : StrayCode} (h : execControlStrayCode c s = .next t) :
    Executed s t := by
  cases c with
  | word w => exact .of_act h (.controlWord w)
  | closeSym => exact .of_act h .controlClose

theorem Executed.of_ringCode {s t : State} {c : OtherCode} (h : execRingCode c s = .next t) : Executed s t := by
  cases c with
  | word w => exact .of_ringAct (c := .data w) h
  | openSym => exact .of_ringAct (c := .openSym) h
  | closeSym => exact .of_ringAct (c := .closeSym) h
  | abort => exact .of_ringAct (c := .abort) h

theorem Executed.of_deadlineExpiry {s t : State} (h : execDeadlineExpiry s = .next t) : Executed s t := by
  refine .of_act h ?_
  split
  · exact .ifElse (.deadline _) .unchanged
  · exact .unchanged

theorem Executed.of_paceTick {s t : State} (h : execPaceTick s = .next t) : Executed s t := by
  refine .of_act h ?_
  split
  · exact .ifElse (.pace _) .unchanged
  · exact .unchanged

theorem Executed.of_cycleSyncEdge {s t : State} {e : Edge} (h : execCycleSyncEdge e s = .next t) :
    Executed s t := by
  refine .of_act h ?_
  exact .ifElse (.syncTick _) (.syncLevel _)

theorem Executed.of_burstEnd {s t : State} {first : Bool} {errors : List BitError}
    (h : execBurstEnd first errors s = .next t) : Executed s t := by
  unfold execBurstEnd at h
  split at h
  · split at h
    · cases h
    · exact .of_act h (.endBurst first errors)
  · exact .of_act h .unchanged

theorem Executed.of_softReset {s t : State} (h : execSoftReset s = .next t) : Executed s t := by
  refine .of_act h ?_
  split
  · exact .ifElse .messageSent .unchanged
  · exact .unchanged

theorem Executed.of_unknownRequest {s t : State} {code : Nat} {tag : Word} {payload : List Word}
    (h : execUnknownRequest code tag payload s = .next t) : Executed s t := by
  unfold execUnknownRequest at h
  split at h
  · exact .of_request h
  · exact .of_act h .unchanged

/-- Every command that does not stop the model is one of the five. -/
theorem Executed.of_exec {i : Instr} {s t : State} (h : exec i s = .next t) : Executed s t := by
  cases i with dsimp only [exec] at h
  | hardReset => exact .of_hardReset h
  | hardResetEnd => exact .of_hardResetEnd h
  | softReset => exact .of_softReset h
  | sensorIdleInHunt l => exact .of_act h (.sensorIdle l)
  | sensorStrayCode l c => exact .of_strayCode h
  | sensorOpen l => exact .of_act h (.sensorOpen l)
  | sensorClose l => exact .of_act h (.sensorClose l)
  | sensorLossOfLineOrder l c => exact .of_act h (.sensorLoss l c)
  | sensorDataWord l w => exact .of_act h (.sensorWord l w)
  | copyGrant => exact .of_act h .grantCopy
  | copyEnd => exact .of_act h .endCopy
  | deadlineExpiry => exact .of_deadlineExpiry h
  | paceTick => exact .of_paceTick h
  | cycleSyncEdge e => exact .of_cycleSyncEdge h
  | burstGrant => exact .of_act h .grantBurst
  | burstEnd first errors => exact .of_burstEnd h
  | filterPassEnd => exact .of_act h .endPass
  | ringHead => exact .of_ringAct h
  | ringHeadWord w => exact .of_ringAct h
  | ringMark => exact .of_ringAct h
  | ringIdle => exact .of_ringAct h
  | ringCode c => exact .of_ringCode h
  | ringCodeViolation => exact .of_ringAct h
  | freshMarkSent => exact .of_act h .freshMark
  | controlIdleInHunt => exact .of_act h .controlIdle
  | controlStrayCode c => exact .of_controlStrayCode h
  | controlOpen => exact .of_act h .controlOpen
  | controlMessageClose => exact .of_act h .controlClose
  | controlLossOfLineOrder c => exact .of_act h .controlLoss
  | controlDataWord w => exact .of_act h (.controlWord w)
  | messageSent => exact .of_act h .messageSent
  | unknownRequest code tag payload => exact .of_unknownRequest h
  | identify tag p => exact .of_request h
  | readStatus tag p => exact .of_request h
  | readCounters tag p => exact .of_request h
  | clearCounters tag p => exact .of_request h
  | setNotices tag p => exact .of_request h
  | reset tag p => exact .of_request h
  | setSensor tag p => exact .of_request h
  | readLinkStatus tag p => exact .of_request h
  | readFrameRecords tag p => exact .of_request h
  | setTiming tag p => exact .of_request h
  | setSlice tag p => exact .of_request h
  | setLoop tag p => exact .of_request h
  | setTrip tag p => exact .of_request h
  | writeDirectory tag p => exact .of_request h
  | setBankShift tag p => exact .of_request h
  | writeMatrix tag p => exact .of_request h
  | readMatrix tag p => exact .of_request h
  | swapBank tag p => exact .of_request h
  | cancelSwap tag p => exact .of_request h
  | writeActuators tag p => exact .of_request h
  | writePairs tag p => exact .of_request h
  | applyParameters tag p => exact .of_request h
  | cancelApply tag p => exact .of_request h
  | presetCommands tag p => exact .of_request h
  | readActuators tag p => exact .of_request h
  | ringJoin tag p => exact .of_request h
  | ringLeave tag p => exact .of_request h
  | ringTransmit tag p => exact .of_request h
  | setTelemetry tag p => exact .of_request h
  | telemetryEnable tag p => exact .of_request h
  | readTelemetry tag p => exact .of_request h
  | releaseTelemetry tag p => exact .of_request h

/-- A step executes the front command, or lets a tick pass. -/
theorem Executed.of_step {s t : State} (h : step s = .next t) :
    ∃ rest, Executed { s with pending := rest } t := by
  unfold step at h
  split at h
  · exact ⟨_, .of_exec h⟩
  · injection h with h
    refine ⟨s.pending, h ▸ ?_⟩
    unfold State.timePasses
    split
    · exact .held
    · exact .settled .tickPasses

/-! ### What carrying out a request can do -/

/-- `t` is what carrying out the request in execution makes of `s`. Every request that is refused or only
reports is `answered`; the others carry the checks they have passed. -/
inductive CarriedOut (s : State) : State → Prop
  | answered (r : Result) (ws : List Word) : CarriedOut s (s.complete r ws)
  | cleared (h : s.running = false) : CarriedOut s (s.clearAll.complete .ok [])
  | masked (mask : BitVec 9) : CarriedOut s ((s.updClp fun c =>
      { c with mask := mask, notices := c.notices.filter fun n => inMask mask n.payload.kind }).complete .ok [])
  | resetInHand : CarriedOut s ((s.updClp fun c => { c.answer .ok [] with resetInHand := true }).setJob .reset)
  | sensorSet (l : Link) (e : MapEntry) : CarriedOut s ((s.updLink l (·.setEntry e)).complete .ok [])
  | recordsRead (l : Link) (n : Nat) (clear : Bool) (ws : List Word) : CarriedOut s ((s.updLink l fun y =>
      { y with queue := y.queue.drop n, overflow := if clear then false else y.overflow }).complete .ok ws)
  | timingSet (x : TimingSettings) : CarriedOut s ((s.applyTiming x).complete .ok [])
  | sliceSet (x : SliceSettings) :
      CarriedOut s ((s.updDrp fun d => { d with settings := x }).complete .ok [])
  | stopped : CarriedOut s s.enterStopped
  | loopSet (target : LoopState) (h : target ≠ .stopped) : CarriedOut s (s.enterRunning target)
  | tripSet (m n : Nat) : CarriedOut s
      ((s.updLsv fun v => { v with skipLimit := m, saturationLimit := n }).complete .ok [])
  | entryWritten (k : BankId) (g base len : Nat) (hg : g ≤ 63) (h : s.entryRefused k g base len = none) :
      CarriedOut s ((s.updBank k (·.setEntry g ⟨true, base, len⟩)).complete .ok [])
  | entryRemoved (k : BankId) (g : Nat) (hg : g ≤ 63) :
      CarriedOut s ((s.updBank k (·.setEntry g .absent)).complete .ok [])
  | shiftSet (k : BankId) (n : Nat) :
      CarriedOut s ((s.updBank k fun x => { x with shift := n }).complete .ok [])
  | transferring (bursts : List Burst) (kind : TransferKind) : CarriedOut s (s.transfer bursts kind)
  | swapped (k : BankId) : CarriedOut s ((s.updMmc fun m => { m with active := k }).complete .ok [])
  | swapPending (k : Option BankId) (r : Result) :
      CarriedOut s ((s.updMmc fun m => { m with swap := k }).complete r [])
  | actuatorsWritten (first : Nat) (ps : List ActuatorParams) (h : ∀ p ∈ ps, p.lo.toInt ≤ p.hi.toInt) :
      CarriedOut s ((s.updTfu fun t => { t with shadow := writeFrom t.shadow first ps }).complete .ok [])
  | pairsWritten (first n : Nat) (ps : List ActuatorPair) : CarriedOut s ((s.updTfu fun t =>
      { t with shadowPairs := ⟨writeFrom t.shadowPairs.slots first ps, n⟩ }).complete .ok [])
  | applied (h : s.running = false) : CarriedOut s ((s.updTfu Tfu.apply).complete .ok [])
  | applyPending : CarriedOut s ((s.updTfu fun t => { t with applyPending := true }).complete .accepted [])
  | applyCancelled : CarriedOut s
      ((s.updTfu fun t => { t with applyPending := false, applyDue := false }).complete .ok [])
  | presetWaits (first : Nat) (values : List Word) : CarriedOut s (s.setJob (.pass first values))
  | preset (first : Nat) (values : List Word) : CarriedOut s (s.makePreset first values)
  | joining : CarriedOut s
      ((s.updDrp fun d => { d with state := .joining, markPassed := false }).complete .accepted [])
  | left : CarriedOut s (s.leftRing.complete .accepted [])
  | leaving : CarriedOut s
      ((s.updDrp fun d => { d with state := .leaving, leaveMark := false, headSeen := false }).complete .accepted [])
  | leaveRequested : CarriedOut s ((s.updDrp fun d => { d with leaveRequested := true }).complete .accepted [])
  | transmitSet (b : Bool) : CarriedOut s ((s.updDrp fun d => { d with transmit := b }).complete .ok [])
  | configured (c : TelemetryConfig) (h0 : s.mmc.bank0.overlaps c.base c.pages none = false)
      (h1 : s.mmc.bank1.overlaps c.base c.pages none = false) : CarriedOut s ((s.configure c).complete .ok [])
  | storeEnabled (g : Geometry) (ws : List Word) (h : 2 ≤ g.capacity) :
      CarriedOut s ((s.enableStore g).complete .ok ws)
  | storeDisabled : CarriedOut s ((s.updTmr fun t => { t with enabled := false }).complete .ok [])
  | recordReading (c : TelemetryConfig) (g : Geometry) (slot start n : Nat) :
      CarriedOut s (s.readRecord c g slot start n)
  | released (n : Nat) (ws : List Word) :
      CarriedOut s ((s.updTmr fun t => { t with unread := t.unread.drop n }).complete .ok ws)

namespace CarriedOut

theorem ifElse {s a b : State} {p : Prop} [Decidable p] (ha : p → CarriedOut s a)
    (hb : ¬p → CarriedOut s b) : CarriedOut s (if p then a else b) := by
  split
  · exact ha ‹_›
  · exact hb ‹_›

theorem identify (payload : List Word) (s : State) : CarriedOut s (State.identify payload s) := by
  unfold State.identify
  split <;> exact .answered _ _

theorem readStatus (payload : List Word) (s : State) : CarriedOut s (State.readStatus payload s) := by
  unfold State.readStatus
  split <;> exact .answered _ _

theorem readCounters (payload : List Word) (s : State) : CarriedOut s (State.readCounters payload s) := by
  unfold State.readCounters
  split <;> exact .answered _ _

theorem clearCounters (payload : List Word) (s : State) : CarriedOut s (State.clearCounters payload s) := by
  unfold State.clearCounters
  split
  · exact .ifElse (fun _ => .answered _ _) fun h => .cleared (by simpa using h)
  · exact .answered _ _

theorem setNotices (payload : List Word) (s : State) : CarriedOut s (State.setNotices payload s) := by
  unfold State.setNotices
  split
  · exact .ifElse (fun _ => .answered _ _) fun _ => .masked _
  · exact .answered _ _

theorem requestReset (payload : List Word) (s : State) : CarriedOut s (State.requestReset payload s) := by
  unfold State.requestReset
  split
  · exact .resetInHand
  · exact .answered _ _

theorem setSensor (payload : List Word) (s : State) : CarriedOut s (State.setSensor payload s) := by
  unfold State.setSensor
  split
  · refine .ifElse (fun _ => .answered _ _) fun _ => ?_
    split
    · exact .ifElse (fun _ => .answered _ _) fun _ => .ifElse (fun _ => .answered _ _) fun _ => .sensorSet _ _
    · exact .answered _ _
  · exact .answered _ _

theorem readLinkStatus (payload : List Word) (s : State) : CarriedOut s (State.readLinkStatus payload s) := by
  unfold State.readLinkStatus
  split
  · split <;> exact .answered _ _
  · exact .answered _ _

theorem readFrameRecords (payload : List Word) (s : State) :
    CarriedOut s (State.readFrameRecords payload s) := by
  unfold State.readFrameRecords
  split
  · split
    · exact .ifElse (fun _ => .answered _ _) fun _ => .recordsRead _ _ _ _
    · exact .answered _ _
  · exact .answered _ _

theorem setTiming (payload : List Word) (s : State) : CarriedOut s (State.setTiming payload s) := by
  unfold State.setTiming
  split
  · split
    · exact .ifElse (fun _ => .answered _ _) fun _ => .timingSet _
    · exact .answered _ _
  · exact .answered _ _

theorem setSlice (payload : List Word) (s : State) : CarriedOut s (State.setSlice payload s) := by
  unfold State.setSlice
  split
  · refine .ifElse (fun _ => .answered _ _) fun _ => .ifElse (fun _ => .answered _ _) fun _ =>
      .ifElse (fun _ => .answered _ _) fun _ => ?_
    split
    · exact .answered _ _
    · exact .sliceSet _
  · exact .answered _ _

theorem setLoop (payload : List Word) (s : State) : CarriedOut s (State.setLoop payload s) := by
  unfold State.setLoop
  split
  · split
    · exact .ifElse (fun _ => .answered _ _) fun _ => .ifElse (fun _ => .stopped) fun h => .loopSet _ h
    · exact .answered _ _
  · exact .answered _ _

theorem setTrip (payload : List Word) (s : State) : CarriedOut s (State.setTrip payload s) := by
  unfold State.setTrip
  split
  · exact .ifElse (fun _ => .answered _ _) fun _ => .tripSet _ _
  · exact .answered _ _

theorem writeDirectory (payload : List Word) (s : State) : CarriedOut s (State.writeDirectory payload s) := by
  unfold State.writeDirectory
  split
  · split
    · refine .ifElse (fun _ => .answered _ _) fun hg => ?_
      split
      · exact .answered _ _
      · refine .ifElse (fun _ => ?_) fun _ => .entryRemoved _ _ (by omega)
        split
        · exact .answered _ _
        · exact .entryWritten _ _ _ _ (by omega) ‹_›
    · exact .answered _ _
  · exact .answered _ _

theorem setBankShift (payload : List Word) (s : State) : CarriedOut s (State.setBankShift payload s) := by
  unfold State.setBankShift
  split
  · split
    · split
      · exact .answered _ _
      · exact .ifElse (fun _ => .answered _ _) fun _ => .shiftSet _ _
    · exact .answered _ _
  · exact .answered _ _

theorem writeMatrix (payload : List Word) (s : State) : CarriedOut s (State.writeMatrix payload s) := by
  unfold State.writeMatrix
  split
  · refine .ifElse (fun _ => .answered _ _) fun _ => ?_
    split
    · dsimp only
      split
      · exact .answered _ _
      · exact .ifElse (fun _ => .answered _ _) fun _ => .ifElse (fun _ => .answered _ _) fun _ =>
          .ifElse (fun _ => .answered _ _) fun _ => .transferring _ _
    · exact .answered _ _
  · exact .answered _ _

theorem readMatrix (payload : List Word) (s : State) : CarriedOut s (State.readMatrix payload s) := by
  unfold State.readMatrix
  split
  · split
    · exact .ifElse (fun _ => .answered _ _) fun _ => .ifElse (fun _ => .answered _ _) fun _ =>
        .transferring _ _
    · exact .answered _ _
  · exact .answered _ _

theorem swapBank (payload : List Word) (s : State) : CarriedOut s (State.swapBank payload s) := by
  unfold State.swapBank
  split
  · split
    · refine .ifElse (fun _ => .answered _ _) fun _ => .ifElse (fun _ => .answered _ _) fun _ => ?_
      split
      · exact .answered _ _
      · exact .ifElse (fun _ => .swapPending _ _) fun _ => .swapped _
    · exact .answered _ _
  · exact .answered _ _

theorem cancelSwap (payload : List Word) (s : State) : CarriedOut s (State.cancelSwap payload s) := by
  unfold State.cancelSwap
  split
  · exact .ifElse (fun _ => .swapPending none .ok) fun _ => .answered _ _
  · exact .answered _ _

/-- The records that pass check 3 of R101 have their limits in order. -/
theorem limits_of_paramsOf {ws : List Word} {ps : List ActuatorParams} (h : paramsOf ws = some ps) :
    ∀ p ∈ ps, p.lo.toInt ≤ p.hi.toInt := by
  fun_induction paramsOf ws generalizing ps with
  | case1 en g l1 l0 lo hi rest e qs hq hflag hlimits ih =>
    injection h with h
    subst h
    exact List.forall_mem_cons.mpr ⟨hlimits.2, ih hq⟩
  | case2 => cases h
  | case3 => cases h
  | case4 =>
    injection h with h
    subst h
    exact List.forall_mem_nil _
  | case5 => cases h

theorem writeActuators (payload : List Word) (s : State) : CarriedOut s (State.writeActuators payload s) := by
  unfold State.writeActuators
  split
  · refine .ifElse (fun _ => .answered _ _) fun _ => .ifElse (fun _ => .answered _ _) fun _ =>
      .ifElse (fun _ => .answered _ _) fun _ => ?_
    split
    · exact .actuatorsWritten _ _ (limits_of_paramsOf ‹_›)
    · exact .answered _ _
  · exact .answered _ _

theorem writePairs (payload : List Word) (s : State) : CarriedOut s (State.writePairs payload s) := by
  unfold State.writePairs
  split
  · refine .ifElse (fun _ => .answered _ _) fun _ => .ifElse (fun _ => .answered _ _) fun _ =>
      .ifElse (fun _ => .answered _ _) fun _ => ?_
    split
    · exact .pairsWritten _ _ _
    · exact .answered _ _
  · exact .answered _ _

theorem applyParameters (payload : List Word) (s : State) :
    CarriedOut s (State.applyParameters payload s) := by
  unfold State.applyParameters
  split
  · exact .ifElse (fun _ => .answered _ _) fun _ => .ifElse (fun _ => .applyPending) fun h =>
      .applied (by simpa using h)
  · exact .answered _ _

theorem cancelApply (payload : List Word) (s : State) : CarriedOut s (State.cancelApply payload s) := by
  unfold State.cancelApply
  split
  · exact .ifElse (fun _ => .applyCancelled) fun _ => .answered _ _
  · exact .answered _ _

theorem presetCommands (payload : List Word) (s : State) : CarriedOut s (State.presetCommands payload s) := by
  unfold State.presetCommands
  split
  · exact .ifElse (fun _ => .answered _ _) fun _ => .ifElse (fun _ => .answered _ _) fun _ =>
      .ifElse (fun _ => .answered _ _) fun _ => .ifElse (fun _ => .presetWaits _ _) fun _ => .preset _ _
  · exact .answered _ _

theorem readActuators (payload : List Word) (s : State) : CarriedOut s (State.readActuators payload s) := by
  unfold State.readActuators
  split
  · exact .ifElse (fun _ => .answered _ _) fun _ => .answered _ _
  · exact .answered _ _

theorem ringJoin (payload : List Word) (s : State) : CarriedOut s (State.ringJoin payload s) := by
  unfold State.ringJoin
  split
  · exact .ifElse (fun _ => .joining) fun _ => .answered _ _
  · exact .answered _ _

theorem ringLeave (payload : List Word) (s : State) : CarriedOut s (State.ringLeave payload s) := by
  unfold State.ringLeave
  split
  · split
    · exact .answered _ _
    · exact .answered _ _
    · exact .left
    · exact .leaving
    · exact .leaving
    · exact .ifElse (fun _ => .answered _ _) fun _ => .leaveRequested
  · exact .answered _ _

theorem ringTransmit (payload : List Word) (s : State) : CarriedOut s (State.ringTransmit payload s) := by
  unfold State.ringTransmit
  split
  · split
    · exact .transmitSet _
    · exact .answered _ _
  · exact .answered _ _

theorem setTelemetry (payload : List Word) (s : State) : CarriedOut s (State.setTelemetry payload s) := by
  unfold State.setTelemetry
  split
  · refine .ifElse (fun _ => .answered _ _) fun _ => ?_
    split
    · refine .ifElse (fun _ => .answered _ _) fun _ => .ifElse (fun _ => .answered _ _) fun h => ?_
      rw [Bool.or_eq_true, not_or, Bool.not_eq_true, Bool.not_eq_true] at h
      exact .configured _ h.1 h.2
    · exact .answered _ _
  · exact .answered _ _

theorem telemetryEnable (payload : List Word) (s : State) :
    CarriedOut s (State.telemetryEnable payload s) := by
  unfold State.telemetryEnable
  split
  · split
    · exact .answered _ _
    · exact .answered _ _
    · exact .answered _ _
    · exact .ifElse (fun _ => .answered _ _) fun h => .storeEnabled _ _ (by omega)
    · exact .storeDisabled
  · exact .answered _ _

theorem readTelemetry (payload : List Word) (s : State) : CarriedOut s (State.readTelemetry payload s) := by
  unfold State.readTelemetry
  split
  · split
    · refine .ifElse (fun _ => .answered _ _) fun _ => ?_
      split
      · exact .ifElse (fun _ => .answered _ _) fun _ => .ifElse (fun _ => .answered _ _) fun _ =>
          .recordReading _ _ _ _ _
      · exact .answered _ _
    · exact .answered _ _
  · exact .answered _ _

theorem releaseTelemetry (payload : List Word) (s : State) :
    CarriedOut s (State.releaseTelemetry payload s) := by
  unfold State.releaseTelemetry
  split
  · exact .released _ _
  · exact .answered _ _

/-- Carrying out a request is one of the cases, whatever its code. -/
theorem of_carryOut (code : Nat) (payload : List Word) (s : State) :
    CarriedOut s (State.carryOut code payload s) := by
  unfold State.carryOut
  split
  · exact identify payload s
  · exact readStatus payload s
  · exact readCounters payload s
  · exact clearCounters payload s
  · exact setNotices payload s
  · exact requestReset payload s
  · exact setSensor payload s
  · exact readLinkStatus payload s
  · exact readFrameRecords payload s
  · exact setTiming payload s
  · exact setSlice payload s
  · exact setLoop payload s
  · exact setTrip payload s
  · exact writeDirectory payload s
  · exact setBankShift payload s
  · exact writeMatrix payload s
  · exact readMatrix payload s
  · exact swapBank payload s
  · exact cancelSwap payload s
  · exact writeActuators payload s
  · exact writePairs payload s
  · exact applyParameters payload s
  · exact cancelApply payload s
  · exact presetCommands payload s
  · exact readActuators payload s
  · exact ringJoin payload s
  · exact ringLeave payload s
  · exact ringTransmit payload s
  · exact setTelemetry payload s
  · exact telemetryEnable payload s
  · exact readTelemetry payload s
  · exact releaseTelemetry payload s
  · exact .answered _ _

end CarriedOut

/-! ### A property that every step keeps -/

/-- A property of the state that each part of a step keeps: the events' own effects, the start of a request and
its carrying out, the transmit arbiter, and the two ends of a hard reset. -/
structure StepClosed (I : State → Prop) : Prop where
  queue : ∀ s q, I s → I { s with pending := q }
  effect : ∀ s t, Effect s t → I s → I t
  start : ∀ s r rest, s.clp.requests = r :: rest → s.mayStart = true → I s → I (s.start r rest)
  carriedOut : ∀ s t, CarriedOut s t → I s → I t
  transmit : ∀ s, I s → I s.transmit
  hardReset : ∀ s : State, I s.hardResetAll
  leaveReset : ∀ s, I s → I s.leaveReset

namespace StepClosed

variable {I : State → Prop}

theorem serveHead (h : StepClosed I) {s : State} (hs : I s) : I s.serveHead := by
  unfold State.serveHead
  split
  · split
    · exact h.carriedOut _ _ (.of_carryOut _ _ _) (h.start _ _ _ ‹_› ‹_› hs)
    · exact hs
  · exact hs

theorem serve (h : StepClosed I) (n : Nat) {s : State} (hs : I s) : I (State.serve n s) := by
  induction n generalizing s with
  | zero => exact hs
  | succ n ih => exact ih (h.serveHead hs)

theorem settle (h : StepClosed I) {s : State} (hs : I s) : I s.settle :=
  h.serve _ (h.transmit _ (h.serve _ hs))

theorem executed (h : StepClosed I) {s t : State} (hst : Executed s t) (hs : I s) : I t := by
  cases hst with
  | held => exact hs
  | settled he => exact h.settle (h.effect _ _ he hs)
  | ringUnderReset c => exact h.effect _ _ (.ringReceive c) hs
  | hardReset => exact h.hardReset s
  | leaveReset => exact h.leaveReset s hs

/-- What each part of a step keeps, every step keeps. -/
theorem step (h : StepClosed I) {s t : State} (hs : I s) (hst : step s = .next t) : I t := by
  obtain ⟨rest, he⟩ := Executed.of_step hst
  exact h.executed he (h.queue s rest hs)

end StepClosed

end Sys2Proof.Machine
end

section
/-! PROOF. The step lemmas of what stands around a cycle: the sensor links (R9, R10, R21), the drive ring's
slice queue (R147), the DRAM's contents (log entry 6) and the page ranges (R73, R151). `SurroundingsClosed I`
asks that `I` be read from the surroundings and kept by the moves that change them; it is then kept by every
step. -/

namespace Sys2Proof.Machine

/-! ### The moves that change the surroundings -/

/-- What can happen to sensor link `l`, its state before and after. -/
inductive LinkMove (l : Link) (x : LinkState) : LinkState → Prop
  | intoSync (h : x.receiver = .hunt) : LinkMove l x { x with receiver := .sync }
  | takeOpen : LinkMove l x x.takeOpen
  | takeWord (w : Word) : LinkMove l x (x.takeWord w)
  | takeClose : LinkMove l x (x.takeClose l)
  | loseLine (cause : LossCause) (h : x.receiver = .sync ∨ x.receiver = .receiving) :
      LinkMove l x (x.loseLine cause)
  | returnOutcome (o : PacketOutcome) : LinkMove l x (x.returnOutcome o)
  | setEntry (e : MapEntry) : LinkMove l x (x.setEntry e)
  | readRecords (n : Nat) (clear : Bool) :
      LinkMove l x { x with queue := x.queue.drop n, overflow := if clear then false else x.overflow }

/-- What can happen to the ring port as far as its slice queue goes: slices leave it, or one joins. -/
inductive QueueMove (d : Drp) : Drp → Prop
  | leave {d' : Drp} (h : d'.queue.Sublist d.queue) : QueueMove d d'
  | join (x : Slice) : QueueMove d (d.join x)

/-- A property of the surroundings of a cycle that each move on them keeps. -/
structure SurroundingsClosed (I : State → Prop) : Prop where
  same : ∀ s t, SameSurroundings s t → I s → I t
  outside : ∀ (s : State) q r a b n, I s →
    I { s with pending := q, inReset := r, ringOut := a, controlOut := b, drawn := n }
  link : ∀ s l f, LinkMove l (s.link l) (f (s.link l)) → I s → I (s.updLink l f)
  clearLinks : ∀ s, I s → I (s.updLinks fun x => { x with counts := .zero })
  ring : ∀ s f, QueueMove s.drp (f s.drp) → I s → I (s.updDrp f)
  control : ∀ s f, I s → I (s.updClp f)
  filter : ∀ s f, I s → I (s.updTfu f)
  weak : ∀ s w, I s → I (s.updMmc fun m => { m with weak := w })
  write : ∀ s place ws, I s → I (s.updMmc (·.writeBurst place ws))
  entry : ∀ s k g base len, g ≤ 63 → s.entryRefused k g base len = none → I s →
    I (s.updBank k (·.setEntry g ⟨true, base, len⟩))
  noEntry : ∀ s k g, g ≤ 63 → I s → I (s.updBank k (·.setEntry g .absent))
  shift : ∀ s k n, I s → I (s.updBank k fun x => { x with shift := n })
  config : ∀ s (c : TelemetryConfig) f, s.mmc.bank0.overlaps c.base c.pages none = false →
    s.mmc.bank1.overlaps c.base c.pages none = false → (f s.tmr).config = some c → I s → I (s.updTmr f)
  softReset : ∀ s, I s → I s.softResetAll
  hardReset : ∀ s : State, I s.hardResetAll

/-! ### Matching a packet with no buffer OPEN (R36, R37) -/

/-- Such a packet is refused, or opens the buffer that opens next and its copy begins. -/
theorem State.matchNew_cases (s : State) (l : Link) (ws : List Word) :
    (∃ o, s.matchNew l ws = s.returnOutcome l o) ∨
      ∃ x, s.freeBuffer = some x ∧ s.matchNew l ws = (s.openWith x (packetFrame ws)).beginCopy l x ws := by
  obtain h | h : s.matchNew l ws = _ ∨ s.matchNew l ws = _ :=
    (Classical.em _).imp (fun h => if_pos h) fun h => if_neg h
  · exact .inl ⟨.stale, h⟩
  · rw [h]
    split
    · exact .inr ⟨_, ‹_›, rfl⟩
    · exact .inl ⟨.noBuffer, rfl⟩

/-! ### The slice queue when a code is read (R134, R148) -/

theorem Drp.queue_breakHead (d : Drp) : d.breakHead.queue = d.queue := by
  unfold Drp.breakHead
  split <;> rfl

theorem Drp.queue_countViolation (d : Drp) (c : Code) : (d.countViolation c).queue = d.queue := by
  unfold Drp.countViolation
  split <;> rfl

/-- Reading a code discards slices at most. -/
theorem Drp.queue_readHead (d : Drp) (c : Code) : ((d.readHead c).countViolation c).queue.Sublist d.queue := by
  rw [Drp.queue_countViolation]
  cases c with
  | idle => exact .refl _
  | data w =>
    rw [Drp.readHead]
    split
    · exact List.filter_sublist
    · exact .refl _
  | head => exact d.queue_breakHead ▸ .refl _
  | openSym => exact d.queue_breakHead ▸ .refl _
  | closeSym => exact d.queue_breakHead ▸ .refl _
  | abort => exact d.queue_breakHead ▸ .refl _
  | mark => exact d.queue_breakHead ▸ .refl _
  | violation => exact d.queue_breakHead ▸ .refl _

/-! ### The parts of a copy's end and of a pass's end (R31, R113) -/

/-- The block of an ended copy is stored and STORED is returned (R31). -/
def State.copyStored (s : State) (c : Copy) : State :=
  ((s.storeBlock c (((s.link c.link).presented).getD [])).updSau fun u => { u with copy := none }).returnOutcome
    c.link .stored

/-- A WAITING engine attached to the buffer takes the block (R88). -/
def State.feedEngine (s : State) (x : BufferId) : State :=
  if s.rce.state = .waiting ∧ s.rce.attached = some x then s.continueCycle else s

/-- A deadline expiry held during the copy is taken (R32). -/
def State.takeHeldExpiry (s : State) : State :=
  if s.sau.heldExpiry then (s.updSau fun a => { a with heldExpiry := false }).takeExpiry else s

theorem State.endCopy_of_none {s : State} (h : s.sau.copy = none) : s.endCopy = s := by
  unfold State.endCopy
  rw [h]

theorem State.endCopy_of_some {s : State} {c : Copy} (h : s.sau.copy = some c) :
    s.endCopy = (((s.copyStored c).feedEngine c.buffer).evaluateFinishing c.buffer).takeHeldExpiry := by
  unfold State.endCopy
  rw [h]
  rfl

/-- Step 1 of R113: the results of the pass are written. -/
def State.passWritten (s : State) (p : FilterPass) : State := s.updTfu (·.writeBack (s.tfu.passResult p).1)

/-- Step 2 of R113: a CLOSED or HELD pass hands on the slice of the results as written. -/
def State.sliceHandedOn (s : State) (p : FilterPass) : State :=
  if p.formsSlice then s.updDrp (·.join (s.formSlice p)) else s

/-- Steps 3 to 5 of R113: the supervisor and the recorder take COMPLETED, and the buffer retires. -/
def State.completionGiven (s : State) (p : FilterPass) (saturated adjustments : Nat) (report : CycleReport) :
    State :=
  ((((s.superviseCompletion p.tag saturated adjustments).updDesc p.buffer fun d =>
    { d with outcome := some .completed }).recordOutcome p.buffer report).retire p.buffer).freeIfReleased p.buffer

/-- The report on a pass whose results are written. -/
def State.passReport (s : State) (p : FilterPass) : CycleReport :=
  s.completionReport p (saturatedCount (s.tfu.passResult p).1) (s.tfu.passResult p).2
    (if p.formsSlice then some ((s.passWritten p).formSlice p).words else none)

theorem State.completePass_eq (s : State) (p : FilterPass) :
    s.completePass p =
      let n := saturatedCount (s.tfu.passResult p).1
      let w := ((s.passWritten p).sliceHandedOn p).completionGiven p n (s.tfu.passResult p).2 (s.passReport p)
      if s.lsv.saturationTrips n then w.freeze .saturation p.tag else w := rfl

/-! ### Operations around a cycle -/

namespace SameSurroundings

theorem presentHost (s : State) : SameSurroundings s s.presentHost := by
  unfold State.presentHost
  split
  · constructor <;> rfl
  · exact refl s

theorem grantBurst (s : State) : SameSurroundings s s.grantBurst := by
  unfold State.grantBurst
  split
  · exact refl s
  · split
    · exact trans (by constructor <;> rfl) (presentRow _)
    · exact trans (by constructor <;> rfl) (presentRecord _)
    · exact trans (by constructor <;> rfl) (presentHost _)
    · exact refl s

theorem freePort (s : State) (first : Bool) : SameSurroundings s (s.freePort first) :=
  ifElse (trans (by constructor <;> rfl) (grantBurst _)) (by constructor <;> rfl)

theorem hostDone (s : State) (kind : TransferKind) (got : List Word) :
    SameSurroundings s (s.hostDone kind got) := by
  cases kind with
  | writeMatrix => exact complete s _ _
  | readMatrix => exact complete s _ _
  | readTelemetry skip count => exact trans (by constructor <;> rfl) (complete _ _ _)

theorem hostBurstEnded (s : State) (ws : List Word) : SameSurroundings s (s.hostBurstEnded ws) := by
  unfold State.hostBurstEnded
  split
  · exact ifElse (hostDone s _ _) (setJob s _)
  · exact refl s

theorem hostReadFails (s : State) (b : Burst) : SameSurroundings s (s.hostReadFails b) :=
  trans (by constructor <;> rfl) (complete _ _ _)

theorem writeEnded (s : State) (b : Burst) : SameSurroundings s (s.writeEnded b) := by
  unfold State.writeEnded
  refine ifElse (refl s) ?_
  split
  · exact recordBurstEnded s _
  · exact hostBurstEnded s _
  · exact hostBurstEnded s _
  · exact refl s

theorem reportRead (s : State) (b : Burst) (results : List EccResult) :
    SameSurroundings s (s.reportRead b results) :=
  ifElse (trans (by constructor <;> rfl) (raise _ _)) (by constructor <;> rfl)

theorem feedEngine (s : State) (x : BufferId) : SameSurroundings s (s.feedEngine x) :=
  ifElse (continueCycle s) (refl s)

theorem takeHeldExpiry (s : State) : SameSurroundings s s.takeHeldExpiry :=
  ifElse (trans (updSau s _) (takeExpiry _)) (refl s)

theorem completionGiven (s : State) (p : FilterPass) (m n : Nat) (r : CycleReport) :
    SameSurroundings s (s.completionGiven p m n r) :=
  trans (trans (trans (trans (superviseCompletion s p.tag m n) (updDesc _ _ _)) (recordOutcome _ _ r))
    (retire _ _)) (freeIfReleased _ _)

theorem engineBurstEnded (s : State) (b : Burst) (bad : Bool) (ws : List Word) :
    SameSurroundings s (s.engineBurstEnded b bad ws) := by
  unfold State.engineBurstEnded
  split
  · exact ifElse (refl s) (trans (engineLetsGo s) (enterIdle _))
  · exact ifElse (refl s) (ifElse (memorySkip s _) (addRow s _ _ _ _))
  · exact refl s

theorem readEnded (s : State) (b : Burst) (bad : Bool) (ws : List Word) :
    SameSurroundings s (s.readEnded b bad ws) := by
  unfold State.readEnded
  split
  · exact engineBurstEnded s b bad ws
  · exact ifElse (refl s) (ifElse (hostReadFails s b) (hostBurstEnded s ws))
  · exact ifElse (refl s) (ifElse (hostReadFails s b) (hostBurstEnded s ws))
  · exact refl s

theorem expireDue (s : State) : SameSurroundings s s.expireDue := by
  unfold State.expireDue
  have h := ifElse (p := s.ctu.deadlineAt = some s.ctu.timebase) (deadlineExpires s) (refl s)
  exact ifElse (trans h (paceExpires _ _)) h

theorem tickPasses (s : State) : SameSurroundings s s.tickPasses :=
  trans (expireDue s) (trans (updCtu _ _) (expireDue _))

theorem applyTiming (s : State) (x : TimingSettings) : SameSurroundings s (s.applyTiming x) :=
  ifElse (trans (updCtu s _) (trans (attachOnIdle _) (offer _))) (updCtu s _)

theorem stopRecorder (s : State) : SameSurroundings s s.stopRecorder := by
  unfold State.stopRecorder
  split
  · exact ifElse (cutRecord s) (refl s)
  · exact refl s

theorem stopFilter (s : State) : SameSurroundings s s.stopFilter :=
  ifElse (trans (by constructor <;> rfl) (applyAt _ _)) (by constructor <;> rfl)

/-- The last step of a filter pass: what follows the results written back and the slice handed on. -/
theorem presetIfWaiting (s : State) : SameSurroundings s s.presetIfWaiting := by
  unfold State.presetIfWaiting
  split
  · exact makePreset s _ _
  · exact refl s

theorem applyIfDue (s : State) : SameSurroundings s s.applyIfDue :=
  ifElse (applyAt s _) (refl s)

end SameSurroundings

namespace SurroundingsClosed

open SameSurroundings (ifElse)

variable {I : State → Prop}

/-! ### Events -/

theorem sendRing (h : SurroundingsClosed I) {s : State} (cs : List Code) (hs : I s) : I (s.sendRing cs) :=
  h.outside s _ _ _ _ _ hs

theorem raise (h : SurroundingsClosed I) {s : State} (p : NoticePayload) (hs : I s) : I (s.raise p) :=
  h.control s _ hs

theorem complete (h : SurroundingsClosed I) {s : State} (r : Result) (ws : List Word) (hs : I s) :
    I (s.complete r ws) := h.control s _ hs

theorem returnOutcome (h : SurroundingsClosed I) {s : State} (l : Link) (o : PacketOutcome) (hs : I s) :
    I (s.returnOutcome l o) := h.link s l _ (.returnOutcome o) hs

/-- A change of the ring port that leaves its queue as it is. -/
theorem ringKeeping (h : SurroundingsClosed I) {s : State} {f : Drp → Drp} (hf : (f s.drp).queue = s.drp.queue)
    (hs : I s) : I (s.updDrp f) := h.ring s f (.leave (hf ▸ .refl _)) hs

theorem sensorIdle (h : SurroundingsClosed I) {s : State} (l : Link) (hs : I s) : I (s.sensorIdle l) := by
  unfold State.sensorIdle
  split
  · exact h.raise _ (h.link s l _ (.intoSync ‹_›) hs)
  all_goals exact hs

theorem sensorLoss (h : SurroundingsClosed I) {s : State} (l : Link) (cause : LossCause) (hs : I s) :
    I (s.sensorLoss l cause) := by
  unfold State.sensorLoss
  split
  · exact h.raise _ (h.link s l _ (.loseLine cause (.inl ‹_›)) hs)
  · exact h.raise _ (h.link s l _ (.loseLine cause (.inr ‹_›)) hs)
  all_goals exact hs

theorem matchNew (h : SurroundingsClosed I) {s : State} (l : Link) (ws : List Word) (hs : I s) :
    I (s.matchNew l ws) := by
  obtain ⟨o, ho⟩ | ⟨x, -, hx⟩ := s.matchNew_cases l ws
  · exact ho ▸ h.returnOutcome l o hs
  · exact hx ▸ h.same _ _ ((SameSurroundings.openWith s _ _).trans (.beginCopy _ l _ ws)) hs

theorem matchSame (h : SurroundingsClosed I) {s : State} (l : Link) (x : BufferId) (ws : List Word)
    (hs : I s) : I (s.matchSame l x ws) := by
  unfold State.matchSame
  split
  · dsimp only
    split
    · exact h.same _ _ ((SameSurroundings.updDesc _ x _).trans (SameSurroundings.evaluateFinishing _ x))
        (h.returnOutcome l _ hs)
    · exact h.returnOutcome l _ hs
  · exact h.same _ _ (SameSurroundings.beginCopy s l x ws) hs

theorem matchPacket (h : SurroundingsClosed I) {s : State} (l : Link) (ws : List Word) (hs : I s) :
    I (s.matchPacket l ws) := by
  unfold State.matchPacket
  split
  · exact h.returnOutcome l _ hs
  · split
    · split
      · exact h.matchSame l _ ws hs
      · split
        · exact h.matchNew l ws (h.same _ _ (SameSurroundings.closeBuffer s _ _) hs)
        · exact h.returnOutcome l _ hs
    · exact h.matchNew l ws hs

theorem grantCopy (h : SurroundingsClosed I) {s : State} (hs : I s) : I s.grantCopy := by
  unfold State.grantCopy
  split
  · exact hs
  · split
    · split
      · exact h.matchPacket _ _ (h.same _ _ (SameSurroundings.updSau s _) hs)
      · exact hs
    · exact hs

theorem copyStored (h : SurroundingsClosed I) {s : State} (c : Copy) (hs : I s) : I (s.copyStored c) :=
  h.returnOutcome c.link .stored (h.same _ _ ((SameSurroundings.storeBlock s c _).trans (.updSau _ _)) hs)

theorem endCopy (h : SurroundingsClosed I) {s : State} (hs : I s) : I s.endCopy := by
  cases hc : s.sau.copy with
  | none =>
    rw [State.endCopy_of_none hc]
    exact hs
  | some c =>
    rw [State.endCopy_of_some hc]
    exact h.same _ _ (((SameSurroundings.feedEngine _ _).trans (.evaluateFinishing _ _)).trans
      (.takeHeldExpiry _)) (h.copyStored c hs)

theorem sliceHandedOn (h : SurroundingsClosed I) {s : State} (p : FilterPass) (hs : I s) :
    I (s.sliceHandedOn p) := by
  unfold State.sliceHandedOn
  split
  · exact h.ring _ _ (.join _) hs
  · exact hs

theorem completePass (h : SurroundingsClosed I) {s : State} (p : FilterPass) (hs : I s) :
    I (s.completePass p) := by
  have hgiven := SameSurroundings.completionGiven ((s.passWritten p).sliceHandedOn p) p
    (saturatedCount (s.tfu.passResult p).1) (s.tfu.passResult p).2 (s.passReport p)
  rw [State.completePass_eq]
  exact h.same _ _ (ifElse (hgiven.trans (.freeze _ _ _)) hgiven) (h.sliceHandedOn p (h.filter s _ hs))

theorem endPass (h : SurroundingsClosed I) {s : State} (hs : I s) : I s.endPass := by
  unfold State.endPass
  split
  · exact h.same _ _ (.offer _) (h.filter _ _ (h.same _ _
      ((SameSurroundings.applyIfDue _).trans (.presetIfWaiting _)) (h.completePass _ hs)))
  · exact hs

theorem endBurst (h : SurroundingsClosed I) {s : State} (first : Bool) (errors : List BitError) (hs : I s) :
    I (s.endBurst first errors) := by
  unfold State.endBurst
  split
  · exact hs
  · split
    · exact h.same _ _ ((SameSurroundings.freePort _ first).trans (.writeEnded _ _)) (h.write s _ _ hs)
    · exact h.same _ _ ((SameSurroundings.reportRead _ _ _).trans ((SameSurroundings.freePort _ first).trans
        (.readEnded _ _ _ _))) (h.outside _ _ _ _ _ _ (h.weak s _ hs))

/-! ### The drive ring -/

theorem repeatCode (h : SurroundingsClosed I) {s : State} (c : Code) (hs : I s) : I (s.repeatCode c) :=
  h.ringKeeping (f := fun d => { d with holding := some c }) rfl (h.sendRing _ hs)

theorem leftRing (h : SurroundingsClosed I) {s : State} (hs : I s) : I s.leftRing :=
  h.raise _ (h.ringKeeping (f := Drp.toBypass) rfl hs)


theorem markOnRing (h : SurroundingsClosed I) {s : State} (hs : I s) : I s.markOnRing := by
  unfold State.markOnRing
  split
  · exact h.ring _ _ (.leave List.erase_sublist) (h.sendRing _ hs)
  · exact h.ringKeeping (f := fun d => { d with train := none }) rfl (h.repeatCode _ hs)

theorem markListening (h : SurroundingsClosed I) {s : State} (hs : I s) : I s.markListening := by
  unfold State.markListening
  dsimp only
  split
  · exact h.raise _ (h.ringKeeping rfl (h.repeatCode _ hs))
  · exact h.repeatCode _ hs

theorem readingReceive (h : SurroundingsClosed I) {s : State} (c : Code) (hs : I s) :
    I (s.readingReceive c) := by
  unfold State.readingReceive
  dsimp only
  have hread := h.ring s (fun d => (d.readHead c).countViolation c) (.leave (Drp.queue_readHead s.drp c)) hs
  generalize s.updDrp (fun d => (d.readHead c).countViolation c) = t at hread
  split
  · exact h.markOnRing hread
  · exact h.markListening hread
  · exact h.ringKeeping (f := fun d => { d with train := none, leaveMark := true }) rfl (h.repeatCode _ hread)
  · split
    · exact h.leftRing (h.sendRing _ hread)
    · exact h.repeatCode _ hread
  · exact h.repeatCode _ hread

theorem joiningReceive (h : SurroundingsClosed I) {s : State} (c : Code) (hs : I s) :
    I (s.joiningReceive c) := by
  unfold State.joiningReceive
  have hsent := h.sendRing [c] hs
  dsimp only
  split
  · exact h.ringKeeping rfl hsent
  · split
    · exact h.ringKeeping rfl hsent
    · exact hsent

theorem sendingReceive (h : SurroundingsClosed I) {s : State} (c : Code) (hs : I s) :
    I (s.sendingReceive c) := by
  unfold State.sendingReceive
  split
  · exact hs
  · split
    · split
      · exact hs
      · exact h.ringKeeping rfl hs
    · split
      · exact h.leftRing (h.sendRing _ hs)
      · exact h.readingReceive c (h.ringKeeping rfl hs)

theorem ringReceive (h : SurroundingsClosed I) {s : State} (c : Code) (hs : I s) : I (s.ringReceive c) := by
  unfold State.ringReceive
  split
  · exact h.sendRing _ hs
  · exact h.joiningReceive c hs
  · exact h.sendingReceive c hs
  all_goals exact h.readingReceive c hs

theorem sendFreshMark (h : SurroundingsClosed I) {s : State} (hs : I s) : I s.sendFreshMark := by
  unfold State.sendFreshMark
  have hsent := h.sendRing (s.drp.unsent ++ [.mark]) hs
  dsimp only
  split
  · split
    · exact h.ringKeeping rfl hsent
    · exact h.ringKeeping rfl hsent
  · exact hs

theorem finishMessage (h : SurroundingsClosed I) {s : State} (hs : I s) : I s.finishMessage := by
  unfold State.finishMessage
  split
  · have hsent := h.control (s.sendControl (Sending.codes ‹_›)) (fun c => { c with sending := none })
      (h.outside s _ _ _ _ _ hs)
    dsimp only
    split
    · exact h.softReset _ hsent
    · exact hsent
  · exact hs

theorem effect (h : SurroundingsClosed I) {s t : State} (he : Effect s t) (hs : I s) : I t := by
  cases he with
  | unchanged => exact hs
  | sensorIdle l => exact h.sensorIdle l hs
  | sensorOpen l => exact h.link s l _ .takeOpen hs
  | sensorWord l w => exact h.link s l _ (.takeWord w) hs
  | sensorClose l => exact h.link s l _ .takeClose hs
  | sensorLoss l cause => exact h.sensorLoss l cause hs
  | grantCopy => exact h.grantCopy hs
  | endCopy => exact h.endCopy hs
  | deadline p => exact h.same _ _ ((SameSurroundings.updCtu s _).trans (.deadlineExpires _)) hs
  | pace p => exact h.same _ _ ((SameSurroundings.updCtu s _).trans (.paceExpires _ p)) hs
  | syncLevel b => exact h.same _ _ (.updCtu s _) hs
  | syncTick b => exact h.same _ _ ((SameSurroundings.updCtu s _).trans (.tick _)) hs
  | endPass => exact h.endPass hs
  | grantBurst => exact h.same _ _ (.grantBurst s) hs
  | endBurst first errors => exact h.endBurst first errors hs
  | ringReceive c => exact h.ringReceive c hs
  | freshMark => exact h.sendFreshMark hs
  | controlIdle => exact h.control s _ hs
  | controlOpen => exact h.control s _ hs
  | controlWord w => exact h.control s _ hs
  | controlClose => exact h.control s _ hs
  | controlLoss => exact h.control s _ hs
  | arrival r => exact h.control s _ hs
  | messageSent => exact h.finishMessage hs
  | tickPasses => exact h.same _ _ (.tickPasses s) hs

/-! ### Requests -/

theorem stopAssembly (h : SurroundingsClosed I) {s : State} (hs : I s) : I s.stopAssembly := by
  unfold State.stopAssembly
  refine h.same _ _ ((SameSurroundings.superviseAbandon _ _).trans (.updSau _ _)) ?_
  split
  · exact h.returnOutcome _ _ hs
  · exact hs

theorem enterStopped (h : SurroundingsClosed I) {s : State} (hs : I s) : I s.enterStopped := by
  refine h.same _ _ (.reportIdle _) (h.ring _ _ (.leave (List.nil_sublist _)) ?_)
  refine h.same _ _ ((((SameSurroundings.updCtu _ _).trans (.abandon _)).trans (.stopFilter _)).trans
    (.makeSwap _ none)) (h.stopAssembly ?_)
  exact h.same _ _ (((SameSurroundings.updLsv s _).trans (.setJob _ _)).trans (.stopRecorder _)) hs

theorem transfer (h : SurroundingsClosed I) {s : State} (bursts : List Burst) (kind : TransferKind)
    (hs : I s) : I (s.transfer bursts kind) :=
  h.same _ _ ((SameSurroundings.setJob s _).trans (.presentHost _)) hs

theorem clearAll (h : SurroundingsClosed I) {s : State} (hs : I s) : I s.clearAll := by
  unfold State.clearAll
  dsimp only
  have hlinks := h.clearLinks _ (h.same _ _ (.updLsv s fun v => { v with skips := 0, counts := .zero }) hs)
  exact h.filter _ _ (h.same _ _ (by constructor <;> rfl) hlinks)

theorem carriedOut (h : SurroundingsClosed I) {s t : State} (hc : CarriedOut s t) (hs : I s) : I t := by
  cases hc with
  | answered r ws => exact h.complete r ws hs
  | cleared _ => exact h.complete _ _ (h.clearAll hs)
  | masked mask => exact h.complete _ _ (h.control s _ hs)
  | resetInHand => exact h.control _ _ (h.control s _ hs)
  | sensorSet l e => exact h.complete _ _ (h.link s l _ (.setEntry e) hs)
  | recordsRead l n clear ws => exact h.complete _ _ (h.link s l _ (.readRecords n clear) hs)
  | timingSet x => exact h.complete _ _ (h.same _ _ (.applyTiming s x) hs)
  | sliceSet x => exact h.complete _ _ (h.ringKeeping rfl hs)
  | stopped => exact h.enterStopped hs
  | loopSet target _ => exact h.complete _ _ (h.same _ _ (.updLsv s _) hs)
  | tripSet m n => exact h.complete _ _ (h.same _ _ (.updLsv s _) hs)
  | entryWritten k g base len hg hok => exact h.complete _ _ (h.entry s k g base len hg hok hs)
  | entryRemoved k g hg => exact h.complete _ _ (h.noEntry s k g hg hs)
  | shiftSet k n => exact h.complete _ _ (h.shift s k n hs)
  | transferring bursts kind => exact h.transfer bursts kind hs
  | swapped k => exact h.complete _ _ (h.same _ _ (by constructor <;> rfl) hs)
  | swapPending k r => exact h.complete _ _ (h.same _ _ (by constructor <;> rfl) hs)
  | actuatorsWritten first ps _ => exact h.complete _ _ (h.filter s _ hs)
  | pairsWritten first n ps => exact h.complete _ _ (h.filter s _ hs)
  | applied _ => exact h.complete _ _ (h.filter s _ hs)
  | applyPending => exact h.complete _ _ (h.filter s _ hs)
  | applyCancelled => exact h.complete _ _ (h.filter s _ hs)
  | presetWaits first values => exact h.control s _ hs
  | preset first values => exact h.complete _ _ (h.filter s _ hs)
  | joining => exact h.complete _ _ (h.ringKeeping rfl hs)
  | left => exact h.complete _ _ (h.leftRing hs)
  | leaving => exact h.complete _ _ (h.ringKeeping rfl hs)
  | leaveRequested => exact h.complete _ _ (h.ringKeeping rfl hs)
  | transmitSet b => exact h.complete _ _ (h.ringKeeping rfl hs)
  | configured c h0 h1 =>
    have hcut := SameSurroundings.cutRecord s
    exact h.complete _ _ (h.config _ c _ (hcut.bank0 ▸ h0) (hcut.bank1 ▸ h1) rfl (h.same _ _ hcut hs))
  | storeEnabled g ws _ =>
    exact h.complete _ _ (h.same _ _ ((SameSurroundings.cutRecord s).trans (by constructor <;> rfl)) hs)
  | storeDisabled => exact h.complete _ _ (h.same _ _ (by constructor <;> rfl) hs)
  | recordReading c g slot start n => exact h.transfer _ _ (h.same _ _ (by constructor <;> rfl) hs)
  | released n ws => exact h.complete _ _ (h.same _ _ (by constructor <;> rfl) hs)

/-- A property of the surroundings that their moves keep is kept by every step. -/
theorem stepClosed (h : SurroundingsClosed I) : StepClosed I where
  queue s _ := h.outside s _ _ _ _ _
  effect _ _ := h.effect
  start s _ _ _ _ := h.control s _
  carriedOut _ _ := h.carriedOut
  transmit s := h.control s _
  hardReset := h.hardReset
  leaveReset s hs := by
    unfold State.leaveReset
    split
    · exact h.outside s _ _ _ _ _ hs
    · exact hs

end SurroundingsClosed

end Sys2Proof.Machine
end

section
/-! PROOF. The step lemmas that are read from the surroundings of a cycle: the DRAM's canonical form, the
slice queue, the sensor links, the page ranges. -/

namespace Sys2Proof.Machine

/-! ### The DRAM (R63, log entry 6) -/

theorem dramCanonical_closed : SurroundingsClosed fun s => Memory.wf s.mmc.dram where
  same _ _ h hs := h.dram ▸ hs
  outside _ _ _ _ _ _ hs := hs
  link _ _ _ _ hs := hs
  clearLinks _ hs := hs
  ring _ _ _ hs := hs
  control _ _ hs := hs
  filter _ _ hs := hs
  weak _ _ hs := hs
  write _ place ws hs := Memory.wf_writeBurst hs place ws
  entry _ k _ _ _ _ _ hs := by cases k <;> exact hs
  noEntry _ k _ _ hs := by cases k <;> exact hs
  shift _ k _ hs := by cases k <;> exact hs
  config _ _ _ _ _ _ hs := hs
  softReset _ hs := hs
  hardReset _ := Memory.wf_reset

/-- Settles O23: of all that a step does, the end of a write burst alone changes the DRAM. -/
theorem dramStaysCanonical : Obligations.DramStaysCanonical :=
  fun _ _ hs hst => dramCanonical_closed.stepClosed.step hs hst

/-! ### The outbound slice queue (R147) -/

theorem Drp.QueueAscends.of_sublist {d d' : Drp} (h : d.QueueAscends) (hsub : d'.queue.Sublist d.queue) :
    d'.QueueAscends := by
  obtain ⟨hlength, hordered⟩ := h
  exact ⟨Nat.le_trans hsub.length_le hlength, hordered.sublist hsub⟩

theorem Drp.queue_join (d : Drp) (x : Slice) :
    (d.join x).queue =
      if 2 < ((d.queue.filter fun q => frameBefore q.tag x.tag) ++ [x]).length then
        ((d.queue.filter fun q => frameBefore q.tag x.tag) ++ [x]).tail
      else (d.queue.filter fun q => frameBefore q.tag x.tag) ++ [x] := by
  simp only [Drp.join, List.drop_one, gt_iff_lt]

/-- A slice joins behind slices before it alone. -/
theorem Drp.QueueAscends.join {d : Drp} (h : d.QueueAscends) (x : Slice) : (d.join x).QueueAscends := by
  obtain ⟨hlength, hordered⟩ := h
  have hkept : (d.queue.filter fun q => frameBefore q.tag x.tag).length ≤ 2 :=
    Nat.le_trans (List.length_filter_le _ _) hlength
  have hjoined : ((d.queue.filter fun q => frameBefore q.tag x.tag) ++ [x]).Pairwise
      fun y z => frameBefore y.tag z.tag = true := by
    rw [List.pairwise_append]
    refine ⟨hordered.filter _, List.pairwise_singleton _ _, fun y hy z hz => ?_⟩
    rw [List.mem_singleton.mp hz]
    exact (List.mem_filter.mp hy).2
  unfold Drp.QueueAscends
  rw [Drp.queue_join]
  split
  · refine ⟨?_, hjoined.sublist (List.tail_sublist _)⟩
    rw [List.length_tail, List.length_append, List.length_singleton]
    omega
  · exact ⟨by omega, hjoined⟩

theorem QueueMove.keeps {d d' : Drp} (h : QueueMove d d') (hd : d.QueueAscends) : d'.QueueAscends := by
  cases h with
  | leave h => exact hd.of_sublist h
  | join x => exact hd.join x

theorem Drp.queueAscends_of_nil {d : Drp} (h : d.queue = []) : d.QueueAscends := by
  unfold Drp.QueueAscends
  rw [h]
  exact ⟨Nat.zero_le 2, List.Pairwise.nil⟩

/-- A soft reset empties the queue. -/
theorem Drp.queue_softReset (d : Drp) (sent : Nat) : (d.softReset sent).queue = [] := by
  unfold Drp.softReset
  dsimp only
  split <;> rfl

theorem sliceQueue_closed : SurroundingsClosed fun s => s.drp.QueueAscends where
  same _ _ h hs := h.drp ▸ hs
  outside _ _ _ _ _ _ hs := hs
  link _ _ _ _ hs := hs
  clearLinks _ hs := hs
  ring _ _ hf hs := hf.keeps hs
  control _ _ hs := hs
  filter _ _ hs := hs
  weak _ _ hs := hs
  write _ _ _ hs := hs
  entry _ _ _ _ _ _ _ hs := hs
  noEntry _ _ _ _ hs := hs
  shift _ _ _ hs := hs
  config _ _ _ _ _ _ hs := hs
  softReset _ _ := Drp.queueAscends_of_nil (Drp.queue_softReset _ _)
  hardReset _ := Drp.queueAscends_of_nil rfl

/-- Settles O46: slices leave the queue in any order of events, and one joins behind slices before it. -/
theorem sliceQueueAscends : Obligations.SliceQueueAscends :=
  fun _ _ hs hst => sliceQueue_closed.stepClosed.step hs hst

end Sys2Proof.Machine
end

section
/-! PROOF. Every step keeps every sensor link consistent (R4, R9, R10, R14, R21). The packet buffers, the
delivery order and the buffer being stored into agree (`PacketsAgree`), with one rule for each thing that can
happen to a packet; the frame records are kept apart from them. -/

namespace Sys2Proof.Machine

/-! ### Packet buffers by name -/

/-- A link's packet buffers with one replaced. -/
def withPacket (packet : PacketSlot → PacketBuffer) (k : PacketSlot) (p : PacketBuffer) (j : PacketSlot) :
    PacketBuffer := if j = k then p else packet j

@[simp] theorem withPacket_same (packet : PacketSlot → PacketBuffer) (k : PacketSlot) (p : PacketBuffer) :
    withPacket packet k p k = p := if_pos rfl

@[simp] theorem withPacket_of_ne (packet : PacketSlot → PacketBuffer) {j k : PacketSlot} (h : j ≠ k)
    (p : PacketBuffer) : withPacket packet k p j = packet j := if_neg h

theorem LinkState.packet_setPacket (x : LinkState) (k : PacketSlot) (p : PacketBuffer) :
    (x.setPacket k p).packet = withPacket x.packet k p := by
  funext j
  cases k <;> cases j <;> rfl

theorem LinkState.freePacket_eq (x : LinkState) (k : PacketSlot) : x.freePacket k = x.setPacket k .empty := by
  cases k <;> rfl

/-- A packet buffer that is replaced leaves the rest of its link as it was. -/
theorem LinkState.setPacket_frame (x : LinkState) (k : PacketSlot) (p : PacketBuffer) :
    x.setPacket k p = { x with
      buffer0 := (x.setPacket k p).buffer0, buffer1 := (x.setPacket k p).buffer1 } := by
  cases k <;> rfl

theorem LinkState.state_of_freeSlot {x : LinkState} {k : PacketSlot} (h : x.freeSlot = some k) :
    (x.packet k).state = .free := by
  unfold LinkState.freeSlot at h
  split at h
  · cases h
    assumption
  · split at h
    · cases h
      assumption
    · cases h

/-! ### The frame records touch nothing else (R20, R21) -/

/-- The same link but for its frame records and counters. -/
structure LinkState.SameFront (x y : LinkState) : Prop where
  receiver : y.receiver = x.receiver
  storing : y.storing = x.storing
  packet : y.packet = x.packet
  order : y.order = x.order
  entry : y.entry = x.entry
  queue : x.queue.length ≤ 16 → y.queue.length ≤ 16

namespace LinkState.SameFront

theorem of_eq {x y : LinkState} (h : y = { x with
    current := y.current, closing := y.closing, queue := y.queue, overflow := y.overflow, counts := y.counts })
    (hq : x.queue.length ≤ 16 → y.queue.length ≤ 16) : SameFront x y := by
  rw [h] at hq ⊢
  exact ⟨rfl, rfl, by funext k; cases k <;> rfl, rfl, rfl, hq⟩

theorem refl (x : LinkState) : SameFront x x := .of_eq rfl id

theorem trans {x y z : LinkState} (h : SameFront x y) (k : SameFront y z) : SameFront x z :=
  ⟨k.receiver.trans h.receiver, k.storing.trans h.storing, k.packet.trans h.packet, k.order.trans h.order,
    k.entry.trans h.entry, k.queue ∘ h.queue⟩

theorem after {x y z : LinkState} (k : SameFront y z) (h : SameFront x y) : SameFront x z := h.trans k

theorem offerRecord (x : LinkState) (r : FrameRecord) : SameFront x (x.offerRecord r) := by
  unfold LinkState.offerRecord
  split
  · refine .of_eq rfl fun _ => ?_
    rw [List.length_append, List.length_singleton]
    omega
  · exact .of_eq rfl id

theorem closeRecord (x : LinkState) : SameFront x x.closeRecord := by
  unfold LinkState.closeRecord
  split
  · split
    · exact (offerRecord _ _).after (.of_eq rfl id)
    · exact .of_eq rfl id
  · exact refl x

theorem closeLost (x : LinkState) : SameFront x x.closeLost :=
  (closeRecord _).after (.of_eq rfl id)

theorem takeOutcome (x : LinkState) (o : PacketOutcome) (last : Bool) : SameFront x (x.takeOutcome o last) := by
  unfold LinkState.takeOutcome
  split
  · dsimp only
    split
    · exact (offerRecord _ _).after (.of_eq rfl id)
    · exact .of_eq rfl id
  · split
    · dsimp only
      split
      · exact (closeRecord _).after (.of_eq rfl id)
      · exact .of_eq rfl id
    · exact refl x

theorem countInRecord (x : LinkState) (frame : Word) : SameFront x (x.countInRecord frame) := by
  unfold LinkState.countInRecord
  split <;> exact .of_eq rfl id

end LinkState.SameFront

/-! ### Packets -/

/-- The delivery order names exactly the DELIVERED buffers, each once; the buffer being stored into alone is
FILLING; a buffer holds at most 261 words (R9, R10). -/
def PacketsAgree (order : List PacketSlot) (storing : Option PacketSlot) (packet : PacketSlot → PacketBuffer) :
    Prop :=
  order.Nodup ∧ (∀ k, k ∈ order ↔ (packet k).state = .delivered) ∧
    (∀ k, (packet k).state = .filling ↔ storing = some k) ∧ ∀ k, (packet k).words.length ≤ 261

theorem LinkState.consistent_iff (x : LinkState) :
    x.Consistent ↔ x.queue.length ≤ 16 ∧ PacketsAgree x.order x.storing x.packet ∧
      (x.storing ≠ none → x.receiver = .receiving) ∧ (x.receiver = .disabled ↔ x.entry.enabled = false) := by
  unfold LinkState.Consistent PacketsAgree
  constructor
  · rintro ⟨hqueue, hnodup, hdelivered, hfilling, hreceiving, hwords, hdisabled⟩
    exact ⟨hqueue, ⟨hnodup, hdelivered, hfilling, hwords⟩, hreceiving, hdisabled⟩
  · rintro ⟨hqueue, ⟨hnodup, hdelivered, hfilling, hwords⟩, hreceiving, hdisabled⟩
    exact ⟨hqueue, hnodup, hdelivered, hfilling, hreceiving, hwords, hdisabled⟩

namespace PacketsAgree

variable {order : List PacketSlot} {storing : Option PacketSlot} {packet : PacketSlot → PacketBuffer}
  {k : PacketSlot}

/-- A FREE buffer starts to be stored into. -/
theorem begin_ (h : PacketsAgree order none packet) (hk : (packet k).state = .free) :
    PacketsAgree order (some k) (withPacket packet k ⟨.filling, []⟩) := by
  obtain ⟨hnodup, hdelivered, hfilling, hwords⟩ := h
  refine ⟨hnodup, fun j => ?_, fun j => ?_, fun j => ?_⟩ <;> by_cases hj : j = k
  · subst hj
    simp [hdelivered, hk]
  · simp [hdelivered, hj]
  · simp [hj]
  · have := hfilling j
    simp_all [eq_comm]
  · simp [hj]
  · simp [hj, hwords]

/-- The buffer being stored into takes other words. -/
theorem refill (h : PacketsAgree order (some k) packet) {ws : List Word} (hws : ws.length ≤ 261) :
    PacketsAgree order (some k) (withPacket packet k ⟨.filling, ws⟩) := by
  obtain ⟨hnodup, hdelivered, hfilling, hwords⟩ := h
  have hk := (hfilling k).mpr rfl
  refine ⟨hnodup, fun j => ?_, fun j => ?_, fun j => ?_⟩ <;> by_cases hj : j = k
  · subst hj
    simp [hdelivered, hk]
  · simp [hdelivered, hj]
  · simp [hj]
  · simp [hj, hfilling]
  · simp [hj, hws]
  · simp [hj, hwords]

/-- What was being stored is lost and its buffer FREE. -/
theorem lose (h : PacketsAgree order (some k) packet) :
    PacketsAgree order none (withPacket packet k .empty) := by
  obtain ⟨hnodup, hdelivered, hfilling, hwords⟩ := h
  have hk := (hfilling k).mpr rfl
  refine ⟨hnodup, fun j => ?_, fun j => ?_, fun j => ?_⟩ <;> by_cases hj : j = k
  · subst hj
    simp [hdelivered, hk, PacketBuffer.empty]
  · simp [hdelivered, hj]
  · simp [hj, PacketBuffer.empty]
  · have := hfilling j
    simp_all [eq_comm]
  · simp [hj, PacketBuffer.empty]
  · simp [hj, hwords]

/-- What was being stored is DELIVERED behind any older packet. -/
theorem deliver (h : PacketsAgree order (some k) packet) :
    PacketsAgree (order ++ [k]) none (withPacket packet k ⟨.delivered, (packet k).words⟩) := by
  obtain ⟨hnodup, hdelivered, hfilling, hwords⟩ := h
  have hk := (hfilling k).mpr rfl
  have hnew : k ∉ order := by simp [hdelivered, hk]
  refine ⟨?_, fun j => ?_, fun j => ?_, fun j => ?_⟩
  · rw [List.nodup_append]
    exact ⟨hnodup, List.pairwise_singleton _ k, fun a ha b hb hab => hnew ((List.mem_singleton.mp hb) ▸ hab ▸ ha)⟩
  all_goals by_cases hj : j = k
  · simp [hj]
  · simp [hdelivered, hj]
  · simp [hj]
  · have := hfilling j
    simp_all [eq_comm]
  · simp [hj, hwords]
  · simp [hj, hwords]

/-- The oldest DELIVERED packet's outcome returns and its buffer is FREE. -/
theorem return_ (h : PacketsAgree (k :: order) storing packet) :
    PacketsAgree order storing (withPacket packet k .empty) := by
  obtain ⟨hnodup, hdelivered, hfilling, hwords⟩ := h
  obtain ⟨hnew, hrest⟩ := List.nodup_cons.mp hnodup
  have hk := (hdelivered k).mp List.mem_cons_self
  refine ⟨hrest, fun j => ?_, fun j => ?_, fun j => ?_⟩ <;> by_cases hj : j = k
  · simp [hj, hnew, PacketBuffer.empty]
  · simp [← hdelivered, hj]
  · have := hfilling k
    simp_all [PacketBuffer.empty]
  · simp [hj, hfilling]
  · simp [hj, PacketBuffer.empty]
  · simp [hj, hwords]

end PacketsAgree

/-! ### Each move of a link -/

namespace LinkState.Consistent

variable {x y : LinkState}

theorem of_sameFront (h : x.Consistent) (hxy : x.SameFront y) : y.Consistent := by
  rw [consistent_iff] at h ⊢
  rw [hxy.receiver, hxy.storing, hxy.packet, hxy.order, hxy.entry]
  exact ⟨hxy.queue h.1, h.2⟩

/-- Nothing is stored into outside RECEIVING. -/
theorem storing_eq_none (h : x.Consistent) (hx : x.receiver ≠ .receiving) : x.storing = none := by
  obtain ⟨-, -, hreceiving, -⟩ := (consistent_iff x).mp h
  exact Decidable.byContradiction fun hstoring => hx (hreceiving hstoring)

/-- A receiver that is not DISABLED goes to another such state while nothing is stored into. -/
theorem setReceiver (h : x.Consistent) (hstoring : x.storing = none) {r : ReceiverState}
    (hx : x.receiver ≠ .disabled) (hr : r ≠ .disabled) : { x with receiver := r }.Consistent := by
  rw [consistent_iff] at h ⊢
  obtain ⟨hqueue, hpackets, -, hdisabled⟩ := h
  refine ⟨hqueue, hpackets, fun hne => absurd hstoring hne, ?_⟩
  exact ⟨fun h => absurd h hr, fun h => absurd (hdisabled.mpr h) hx⟩

theorem beginPacket (h : x.Consistent) (hstoring : x.storing = none) (hx : x.receiver ≠ .disabled) :
    x.beginPacket.Consistent := by
  unfold LinkState.beginPacket
  split
  · rename_i k hk
    rw [setPacket_frame]
    rw [consistent_iff] at h ⊢
    obtain ⟨hqueue, hpackets, -, hdisabled⟩ := h
    have hbegun := (hstoring ▸ hpackets).begin_ (state_of_freeSlot hk)
    rw [← packet_setPacket] at hbegun
    exact ⟨hqueue, hbegun, fun _ => rfl, ⟨fun h => (nomatch h), fun h => absurd (hdisabled.mpr h) hx⟩⟩
  · exact (h.setReceiver hstoring hx (r := .receiving) (fun h => nomatch h)).of_sameFront
      ⟨rfl, hstoring.symm, rfl, rfl, rfl, id⟩

theorem takeOpen (h : x.Consistent) : x.takeOpen.Consistent := by
  unfold LinkState.takeOpen
  split
  · rename_i hsync
    exact h.beginPacket (h.storing_eq_none (by simp [hsync])) (by simp [hsync])
  · rename_i k hreceiving hk
    rw [setPacket_frame]
    rw [consistent_iff] at h ⊢
    obtain ⟨hqueue, hpackets, hstoring, hdisabled⟩ := h
    have hrefilled := (hk ▸ hpackets).refill (ws := []) (Nat.zero_le _)
    rw [← packet_setPacket, ← hk] at hrefilled
    exact ⟨hqueue, hrefilled, hstoring, hdisabled⟩
  · rename_i hreceiving hnone
    exact h.beginPacket hnone (by simp [hreceiving])
  · exact h
  · exact h

theorem takeWord (h : x.Consistent) (w : Word) : (x.takeWord w).Consistent := by
  unfold LinkState.takeWord
  split
  · rename_i k hreceiving hk
    dsimp only
    split
    · rename_i hroom
      rw [setPacket_frame]
      rw [consistent_iff] at h ⊢
      obtain ⟨hqueue, hpackets, hstoring, hdisabled⟩ := h
      have hfilling := (hpackets.2.2.1 k).mpr hk
      have hrefilled := (hk ▸ hpackets).refill (ws := (x.packet k).words ++ [w])
        (by rw [List.length_append, List.length_singleton]; omega)
      rw [← packet_setPacket, ← hfilling, ← hk] at hrefilled
      exact ⟨hqueue, hrefilled, hstoring, hdisabled⟩
    · exact h
  · exact h
  · exact h
  · exact h
  · exact h

/-- A packet being stored is lost: its buffer is FREE and nothing is stored into. -/
theorem losePacket (h : x.Consistent) {k : PacketSlot} (hk : x.storing = some k) :
    { x.freePacket k with storing := none }.Consistent := by
  rw [freePacket_eq, setPacket_frame]
  rw [consistent_iff] at h ⊢
  obtain ⟨hqueue, hpackets, -, hdisabled⟩ := h
  have hlost := (hk ▸ hpackets).lose
  rw [← packet_setPacket] at hlost
  exact ⟨hqueue, hlost, fun hne => absurd rfl hne, hdisabled⟩

theorem rejectPacket (h : x.Consistent) {k : PacketSlot} (hk : x.storing = some k)
    (hx : x.receiver = .receiving) (f : PacketFault) : (x.rejectPacket k f).Consistent := by
  have hlost : { x.freePacket k with receiver := .sync, storing := none }.Consistent :=
    (h.losePacket hk).setReceiver rfl (by rw [freePacket_eq, setPacket_frame]; simp [hx])
      (r := .sync) (fun h => nomatch h)
  refine hlost.of_sameFront ?_
  unfold LinkState.rejectPacket
  dsimp only
  split <;> exact .of_eq rfl id

theorem deliver (h : x.Consistent) {k : PacketSlot} (hk : x.storing = some k) (hx : x.receiver = .receiving) :
    (x.deliver k).Consistent := by
  have hdelivered : { x.setPacket k ⟨.delivered, (x.packet k).words⟩ with
      receiver := .sync, storing := none, order := x.order ++ [k] }.Consistent := by
    rw [setPacket_frame]
    rw [consistent_iff] at h ⊢
    obtain ⟨hqueue, hpackets, -, hdisabled⟩ := h
    have hagree := (hk ▸ hpackets).deliver
    rw [← packet_setPacket] at hagree
    have henabled : x.entry.enabled ≠ false := fun he => by simp [hdisabled.mpr he] at hx
    exact ⟨hqueue, hagree, fun hne => absurd rfl hne, ⟨fun h => (nomatch h), fun he => absurd he henabled⟩⟩
  refine hdelivered.of_sameFront ?_
  unfold LinkState.deliver
  dsimp only
  refine (SameFront.countInRecord _ _).after ?_
  split
  · exact (SameFront.closeRecord _).after (.of_eq rfl id)
  · exact .of_eq rfl id

theorem takeClose (h : x.Consistent) (l : Nat) : (x.takeClose l).Consistent := by
  unfold LinkState.takeClose
  split
  · rename_i k hreceiving hk
    split
    · exact h.rejectPacket hk hreceiving _
    · exact h.deliver hk hreceiving
  · rename_i hreceiving hnone
    exact h.setReceiver hnone (by simp [hreceiving]) (fun h => nomatch h)
  · exact h.of_sameFront (.of_eq rfl id)
  · exact h
  · exact h

theorem loseLine (h : x.Consistent) (cause : LossCause) (hx : x.receiver = .sync ∨ x.receiver = .receiving) :
    (x.loseLine cause).Consistent := by
  have henabled : x.receiver ≠ .disabled := by rcases hx with hx | hx <;> simp [hx]
  unfold LinkState.loseLine
  dsimp only
  split
  · rename_i k hreceiving hk
    have hlost : { x.freePacket k with receiver := .hunt, storing := none }.Consistent :=
      (h.losePacket hk).setReceiver rfl (by rw [freePacket_eq, setPacket_frame]; exact henabled)
        (r := .hunt) (fun h => nomatch h)
    refine hlost.of_sameFront ((SameFront.closeLost _).after ?_)
    cases k <;> exact .of_eq rfl id
  · rename_i hnot
    have hnone : x.storing = none := by
      rcases hx with hsync | hreceiving
      · exact h.storing_eq_none (by simp [hsync])
      · exact Option.eq_none_iff_forall_ne_some.mpr fun k hk => hnot k hreceiving hk
    exact (h.setReceiver hnone henabled (r := .hunt) (fun h => nomatch h)).of_sameFront
      ((SameFront.closeLost _).after ⟨rfl, hnone.symm, rfl, rfl, rfl, id⟩)

theorem returnOutcome (h : x.Consistent) (o : PacketOutcome) : (x.returnOutcome o).Consistent := by
  unfold LinkState.returnOutcome
  split
  · rename_i k rest horder
    refine of_sameFront ?_ (SameFront.takeOutcome _ o _)
    rw [freePacket_eq, setPacket_frame]
    rw [consistent_iff] at h ⊢
    obtain ⟨hqueue, hpackets, hstoring, hdisabled⟩ := h
    have hreturned := (horder ▸ hpackets).return_
    rw [← packet_setPacket] at hreturned
    refine ⟨hqueue, ?_, hstoring, hdisabled⟩
    cases k <;> exact hreturned
  · exact h

/-- A receiver that is being stored into or not goes to DISABLED with what it was storing lost (R14). -/
theorem disable (h : x.Consistent) {e : MapEntry} (he : e.enabled = false) :
    ({ x with entry := e } : LinkState).disable.Consistent := by
  have hnone : ∀ z : LinkState, z.Consistent → z.storing = none →
      { z with entry := e, receiver := .disabled }.Consistent := by
    intro z hz hstoring
    rw [consistent_iff] at hz ⊢
    obtain ⟨hqueue, hpackets, -, -⟩ := hz
    exact ⟨hqueue, hpackets, fun hne => absurd hstoring hne, ⟨fun _ => he, fun _ => rfl⟩⟩
  unfold LinkState.disable
  refine of_sameFront ?_ (SameFront.closeLost _)
  cases hk : x.storing with
  | none => exact (hnone x h hk).of_sameFront ⟨rfl, hk.symm, rfl, rfl, rfl, id⟩
  | some k => cases k <;> exact hnone _ (h.losePacket hk) rfl

theorem setEntry (h : x.Consistent) (e : MapEntry) : (x.setEntry e).Consistent := by
  have hkept : x.entry.enabled = e.enabled → { x with entry := e }.Consistent := by
    intro he
    rw [consistent_iff] at h ⊢
    obtain ⟨hqueue, hpackets, hstoring, hdisabled⟩ := h
    exact ⟨hqueue, hpackets, hstoring, he ▸ hdisabled⟩
  unfold LinkState.setEntry
  dsimp only
  split
  · rename_i hoff hon
    rw [consistent_iff] at h ⊢
    obtain ⟨hqueue, hpackets, hstoring, hdisabled⟩ := h
    have hx := hdisabled.mpr hoff
    refine ⟨hqueue, hpackets, fun hne => ?_, ⟨fun h => (nomatch h), fun he => by simp [hon] at he⟩⟩
    have := hstoring hne
    simp [hx] at this
  · exact h.disable ‹_›
  · rename_i hoffon honoff
    refine hkept ?_
    cases hx : x.entry.enabled <;> cases hy : e.enabled
    · rfl
    · exact (hoffon hx hy).elim
    · exact (honoff hx hy).elim
    · rfl

theorem reset_with_entry (e : MapEntry) :
    { LinkState.reset with receiver := if e.enabled then .hunt else .disabled, entry := e }.Consistent := by
  have hempty : ∀ k, LinkState.reset.packet k = .empty := fun k => by cases k <;> rfl
  have hagree : PacketsAgree [] none LinkState.reset.packet := by
    unfold PacketsAgree
    simp [hempty, PacketBuffer.empty]
  rw [consistent_iff]
  refine ⟨Nat.zero_le _, ?_, fun hne => absurd rfl hne, ?_⟩
  · have hsame : LinkState.packet { LinkState.reset with
        receiver := if e.enabled then .hunt else .disabled, entry := e } = LinkState.reset.packet := by
      funext k
      cases k <;> rfl
    rw [hsame]
    exact hagree
  · cases e.enabled <;> simp

end LinkState.Consistent

theorem LinkMove.keeps {l : Link} {x y : LinkState} (h : LinkMove l x y) (hx : x.Consistent) : y.Consistent := by
  cases h with
  | intoSync h => exact hx.setReceiver (hx.storing_eq_none (by simp [h])) (by simp [h]) (fun h => nomatch h)
  | takeOpen => exact hx.takeOpen
  | takeWord w => exact hx.takeWord w
  | takeClose => exact hx.takeClose l
  | loseLine cause h => exact hx.loseLine cause h
  | returnOutcome o => exact hx.returnOutcome o
  | setEntry e => exact hx.setEntry e
  | readRecords n clear =>
    refine hx.of_sameFront (.of_eq rfl fun hq => ?_)
    rw [List.length_drop]
    omega

/-! ### The statement -/

theorem State.LinksConsistent.updLink {s : State} (hs : s.LinksConsistent) {l : Link} {f : LinkState → LinkState}
    (hf : (f (s.link l)).Consistent) : (s.updLink l f).LinksConsistent := by
  intro k
  by_cases hk : k = l
  · subst hk
    rw [State.link_updLink_same]
    exact hf
  · rw [State.link_updLink_of_ne s hk]
    exact hs k

theorem State.link_reset (l : Link) : State.reset.link l = LinkState.reset := by
  simp [State.reset, State.link]

theorem State.link_hardResetAll (s : State) (l : Link) : s.hardResetAll.link l = LinkState.reset :=
  State.link_reset l

theorem State.link_softResetAll (s : State) (l : Link) : s.softResetAll.link l = (s.link l).softReset :=
  mapTable_getElem _ _ _ l.isLt

theorem linksConsistent_closed : SurroundingsClosed State.LinksConsistent where
  same _ _ h hs l := by
    unfold State.link
    rw [h.links]
    exact hs l
  outside _ _ _ _ _ _ hs := hs
  link _ _ _ hf hs := hs.updLink (hf.keeps (hs _))
  clearLinks _ hs l := by
    rw [State.link_updLinks]
    exact (hs l).of_sameFront (.of_eq rfl id)
  ring _ _ _ hs := hs
  control _ _ hs := hs
  filter _ _ hs := hs
  weak _ _ hs := hs
  write _ _ _ hs := hs
  entry _ _ _ _ _ _ _ hs := hs
  noEntry _ _ _ _ hs := hs
  shift _ _ _ hs := hs
  config _ _ _ _ _ _ hs := hs
  softReset _ _ l := by
    rw [State.link_softResetAll]
    exact .reset_with_entry _
  hardReset s l := by
    rw [State.link_hardResetAll]
    exact .reset_with_entry .reset

/-- Settles O10: each thing that can happen to a link keeps it consistent. -/
theorem sensorLinksStayConsistent : Obligations.SensorLinksStayConsistent :=
  fun _ _ hs hst => linksConsistent_closed.stepClosed.step hs hst

end Sys2Proof.Machine
end

section
/-! PROOF. Every step keeps the page ranges in use apart (R72, R73, R151). An entry is written only after it
was compared with every range in use, a telemetry region only after it was compared with every present entry;
nothing else changes a directory's ranges or the region. -/

namespace Sys2Proof.Machine

theorem BankId.eq_or_eq_other (k j : BankId) : j = k ∨ j = k.other := by
  cases k <;> cases j
  · exact .inl rfl
  · exact .inr rfl
  · exact .inr rfl
  · exact .inl rfl

/-! ### Ranges that meet -/

theorem pagesMeet_comm (b1 l1 b2 l2 : Nat) : pagesMeet b1 l1 b2 l2 = pagesMeet b2 l2 b1 l1 := Bool.and_comm _ _

/-- A range that overlaps no entry of a bank, but for the one left out, meets none of the present ones. -/
theorem Bank.pagesMeet_eq_false {x : Bank} {base len : Nat} {skip : Option Nat}
    (h : x.overlaps base len skip = false) {g : Nat} (hskip : some g ≠ skip)
    (hg : (entryAt x.directory g .absent).present = true) :
    pagesMeet (entryAt x.directory g .absent).base (entryAt x.directory g .absent).pages base len = false := by
  by_cases hlt : g < 64
  · have hno := List.any_eq_false.mp h g (List.mem_range.mpr hlt)
    simpa [hskip, hg] using hno
  · rw [entryAt_of_ge _ _ _ (Nat.not_lt.mp hlt)] at hg
    cases hg

/-! ### The entries of a bank after a write (R72) -/

theorem State.entry_of_bank_eq {s t : State} (h : ∀ k, t.bank k = s.bank k) (k : BankId) (g : Nat) :
    t.entry k g = s.entry k g := by
  unfold State.entry
  rw [h]

theorem State.entry_setEntry_same (s : State) (k : BankId) {g : Nat} (e : DirEntry) (hg : g ≤ 63) :
    (s.updBank k (·.setEntry g e)).entry k g = e := by
  rw [State.entry, State.bank_updBank_same, Bank.setEntry, entryAt_writeFrom _ _ _ _ _ (by omega)]
  simp

/-- Every other entry stands, in the bank written and in the other. -/
theorem State.entry_setEntry_of_ne (s : State) {k k' : BankId} {g g' : Nat} (e : DirEntry)
    (h : (k', g') ≠ (k, g)) : (s.updBank k (·.setEntry g e)).entry k' g' = s.entry k' g' := by
  by_cases hk : k' = k
  · subst hk
    have hg : g' ≠ g := fun hg => h (hg ▸ rfl)
    rw [State.entry, State.entry, State.bank_updBank_same, Bank.setEntry]
    by_cases hlt : g' < 64
    · rw [entryAt_writeFrom _ _ _ _ _ hlt]
      split
      · rw [List.getElem?_eq_none (by rw [List.length_singleton]; omega)]
        rfl
      · rfl
    · rw [entryAt_of_ge _ _ _ (Nat.not_lt.mp hlt), entryAt_of_ge _ _ _ (Nat.not_lt.mp hlt)]
  · rw [State.entry, State.entry, State.bank_updBank_of_ne _ hk]

/-- What the checks of a present entry say (R72 checks 4 and 5, R73). -/
theorem State.entryRefused_eq_none {s : State} {k : BankId} {g base len : Nat}
    (h : s.entryRefused k g base len = none) :
    1 ≤ len ∧ base + len ≤ 131072 ∧
      (∀ k' g', (k', g') ≠ (k, g) → (s.entry k' g').present = true →
        pagesMeet (s.entry k' g').base (s.entry k' g').pages base len = false) ∧
      ∀ c, s.tmr.config = some c → pagesMeet c.base c.pages base len = false := by
  unfold State.entryRefused at h
  split at h
  · cases h
  rename_i hlen
  split at h
  · cases h
  rename_i huse
  rw [State.rangeInUse, Bool.or_eq_true, Bool.or_eq_true, not_or, not_or, Bool.not_eq_true, Bool.not_eq_true,
    Bool.not_eq_true] at huse
  obtain ⟨⟨hsame, hother⟩, hregion⟩ := huse
  have hpages : pagesInDram = 131072 := rfl
  refine ⟨by omega, by omega, fun k' g' hne hpresent => ?_, fun c hc => ?_⟩
  · by_cases hk : k' = k
    · subst hk
      exact Bank.pagesMeet_eq_false hsame (fun hg => hne (Option.some.inj hg ▸ rfl)) hpresent
    · have : k' = k.other := (k.eq_or_eq_other k').resolve_left hk
      subst this
      exact Bank.pagesMeet_eq_false hother (fun h => nomatch h) hpresent
  · rw [Tmr.regionMeets, hc] at hregion
    exact hregion

/-! ### Each move keeps the ranges apart -/

namespace State.PagesDisjoint

variable {s t : State}

/-- Only the directories' entries and the region are read. -/
theorem congr (hs : s.PagesDisjoint) (he : ∀ k g, t.entry k g = s.entry k g)
    (hc : t.tmr.config = s.tmr.config) : t.PagesDisjoint := by
  unfold State.PagesDisjoint
  simp only [he, hc]
  exact hs

/-- An entry made absent leaves the others as they were. -/
theorem noEntry (hs : s.PagesDisjoint) (k : BankId) {g : Nat} (hg : g ≤ 63) :
    (s.updBank k (·.setEntry g .absent)).PagesDisjoint := by
  have hkeep : ∀ k' g', ((s.updBank k (·.setEntry g .absent)).entry k' g').present = true →
      (s.updBank k (·.setEntry g .absent)).entry k' g' = s.entry k' g' := by
    intro k' g' hpresent
    by_cases heq : (k', g') = (k, g)
    · obtain ⟨rfl, rfl⟩ := Prod.mk.inj heq
      rw [State.entry_setEntry_same _ _ _ hg] at hpresent
      cases hpresent
    · exact State.entry_setEntry_of_ne s _ heq
  obtain ⟨hinside, hapart, hregion⟩ := hs
  refine ⟨fun k' g' h => ?_, fun k' g' k'' g'' hne h h' => ?_, fun c k' g' hc h => ?_⟩
  · have heq := hkeep _ _ h
    rw [heq] at h ⊢
    exact hinside k' g' h
  · have heq := hkeep _ _ h
    have heq' := hkeep _ _ h'
    rw [heq] at h ⊢
    rw [heq'] at h' ⊢
    exact hapart _ _ _ _ hne h h'
  · have heq := hkeep _ _ h
    rw [heq] at h ⊢
    exact hregion c _ _ hc h

/-- A present entry that passed its checks. -/
theorem entry (hs : s.PagesDisjoint) {k : BankId} {g base len : Nat} (hg : g ≤ 63)
    (hok : s.entryRefused k g base len = none) :
    (s.updBank k (·.setEntry g ⟨true, base, len⟩)).PagesDisjoint := by
  obtain ⟨hlen, hfits, hfree, hoff⟩ := State.entryRefused_eq_none hok
  obtain ⟨hinside, hapart, hregion⟩ := hs
  have hnew := State.entry_setEntry_same s k ⟨true, base, len⟩ hg
  have hold : ∀ {k' g'}, (k', g') ≠ (k, g) → _ := fun h =>
    State.entry_setEntry_of_ne s (k := k) (g := g) ⟨true, base, len⟩ h
  refine ⟨fun k' g' h => ?_, fun k' g' k'' g'' hne h h' => ?_, fun c k' g' hc h => ?_⟩
  · by_cases heq : (k', g') = (k, g)
    · obtain ⟨rfl, rfl⟩ := Prod.mk.inj heq
      rw [hnew]
      exact ⟨hlen, hfits⟩
    · rw [hold heq] at h ⊢
      exact hinside _ _ h
  · by_cases heq : (k', g') = (k, g)
    · have heq' : (k'', g'') ≠ (k, g) := heq ▸ hne.symm
      obtain ⟨rfl, rfl⟩ := Prod.mk.inj heq
      rw [hold heq'] at h' ⊢
      rw [hnew, pagesMeet_comm]
      exact hfree _ _ heq' h'
    · rw [hold heq] at h ⊢
      by_cases heq' : (k'', g'') = (k, g)
      · obtain ⟨rfl, rfl⟩ := Prod.mk.inj heq'
        rw [hnew]
        exact hfree _ _ heq h
      · rw [hold heq'] at h' ⊢
        exact hapart _ _ _ _ hne h h'
  · by_cases heq : (k', g') = (k, g)
    · obtain ⟨rfl, rfl⟩ := Prod.mk.inj heq
      rw [hnew, pagesMeet_comm]
      exact hoff c hc
    · rw [hold heq] at h ⊢
      exact hregion c _ _ hc h

/-- A telemetry region that overlaps no present entry of either bank. -/
theorem config (hs : s.PagesDisjoint) {c : TelemetryConfig} {f : Tmr → Tmr}
    (h0 : s.mmc.bank0.overlaps c.base c.pages none = false)
    (h1 : s.mmc.bank1.overlaps c.base c.pages none = false) (hf : (f s.tmr).config = some c) :
    (s.updTmr f).PagesDisjoint := by
  obtain ⟨hinside, hapart, -⟩ := hs
  refine ⟨hinside, hapart, fun c' k g hc hpresent => ?_⟩
  obtain rfl : c = c' := Option.some.inj (hf.symm.trans hc)
  cases k with
  | zero => exact Bank.pagesMeet_eq_false h0 (fun h => nomatch h) hpresent
  | one => exact Bank.pagesMeet_eq_false h1 (fun h => nomatch h) hpresent

/-- With no entry present there is nothing to keep apart. -/
theorem of_absent (h : ∀ k g, (t.entry k g).present = false) : t.PagesDisjoint := by
  unfold State.PagesDisjoint
  simp [h]

end State.PagesDisjoint

theorem Bank.entryAt_reset (g : Nat) : entryAt Bank.reset.directory g .absent = DirEntry.absent := by
  rw [entryAt, Bank.reset, Vector.toList_replicate, List.getElem?_replicate]
  split <;> rfl

theorem pagesDisjoint_closed : SurroundingsClosed State.PagesDisjoint where
  same _ _ h hs := hs.congr
    (State.entry_of_bank_eq fun k => by cases k with | zero => exact h.bank0 | one => exact h.bank1) h.config
  outside _ _ _ _ _ _ hs := hs
  link _ _ _ _ hs := hs
  clearLinks _ hs := hs
  ring _ _ _ hs := hs
  control _ _ hs := hs
  filter _ _ hs := hs
  weak _ _ hs := hs
  write _ _ _ hs := hs
  entry _ _ _ _ _ hg hok hs := hs.entry hg hok
  noEntry _ k _ hg hs := hs.noEntry k hg
  shift s k n hs := hs.congr (fun k' g => by
    unfold State.entry
    by_cases hk : k' = k
    · subst hk
      rw [State.bank_updBank_same]
    · rw [State.bank_updBank_of_ne _ hk]) rfl
  config _ _ _ h0 h1 hf hs := hs.config h0 h1 hf
  softReset _ hs := hs.congr (State.entry_of_bank_eq fun k => by cases k <;> rfl) rfl
  hardReset s := .of_absent fun k g => by
    have hk : s.hardResetAll.bank k = Bank.reset := by cases k <;> rfl
    rw [State.entry, hk, Bank.entryAt_reset]
    rfl

/-- Settles O24: an entry or a region is set only after it was compared with every range in use. -/
theorem pageRangesStayDisjoint : Obligations.PageRangesStayDisjoint :=
  fun _ _ hs hst => pagesDisjoint_closed.stepClosed.step hs hst

end Sys2Proof.Machine
end

section
/-! PROOF. What handing on an outcome and what a swap or an apply at an attach leave alone, as equations
between whole states; and what the search for a buffer finds. -/

namespace Sys2Proof.Machine

/-! ### Handing on an outcome: the supervisor, the recorder with its bursts, and notices -/

/-- Between `s` and `t` only the supervisor, the recorder, the memory controller and the control link port
differ. -/
def OutcomeFrame (s t : State) : Prop :=
  t = { s with mmc := t.mmc, lsv := t.lsv, tmr := t.tmr, clp := t.clp }

namespace OutcomeFrame

variable {s t u : State}

theorem refl (s : State) : OutcomeFrame s s := rfl

theorem trans (h : OutcomeFrame s t) (k : OutcomeFrame t u) : OutcomeFrame s u :=
  Eq.trans k (by rw [h])

theorem after (k : OutcomeFrame t u) (h : OutcomeFrame s t) : OutcomeFrame s u := h.trans k

theorem ifElse {p : Prop} [Decidable p] (ht : OutcomeFrame s t) (hu : OutcomeFrame s u) :
    OutcomeFrame s (if p then t else u) := by
  split
  · exact ht
  · exact hu

theorem sau (h : OutcomeFrame s t) : t.sau = s.sau := by rw [h]
theorem rce (h : OutcomeFrame s t) : t.rce = s.rce := by rw [h]
theorem tfu (h : OutcomeFrame s t) : t.tfu = s.tfu := by rw [h]
theorem ctu (h : OutcomeFrame s t) : t.ctu = s.ctu := by rw [h]
theorem desc (h : OutcomeFrame s t) (x : BufferId) : t.desc x = s.desc x := by rw [h]; cases x <;> rfl

theorem raise (s : State) (p : NoticePayload) : OutcomeFrame s (s.raise p) := rfl

theorem trip (s : State) (c : TripCause) (f : Word) (v l : Nat) : OutcomeFrame s (s.trip c f v l) := rfl

theorem superviseSkip (s : State) (tag : Word) (c : SkipCause) : OutcomeFrame s (s.superviseSkip tag c) :=
  ifElse rfl rfl

theorem superviseCompletion (s : State) (tag : Word) (m n : Nat) :
    OutcomeFrame s (s.superviseCompletion tag m n) := ifElse rfl rfl

theorem presentRecord (s : State) : OutcomeFrame s s.presentRecord := by
  unfold State.presentRecord
  split
  · exact ifElse rfl rfl
  · rfl

theorem startRecord (s : State) (x : BufferId) (r : CycleReport) : OutcomeFrame s (s.startRecord x r) := by
  unfold State.startRecord
  split
  · exact (presentRecord _).after rfl
  · rfl

theorem recordDue (s : State) (x : BufferId) (r : CycleReport) : OutcomeFrame s (s.recordDue x r) := by
  unfold State.recordDue
  split
  · refine ifElse rfl (ifElse (startRecord s x r) (ifElse rfl ?_))
    split
    · rfl
    · exact ifElse rfl ((startRecord _ x r).after rfl)
  · rfl

theorem recordOutcome (s : State) (x : BufferId) (r : CycleReport) :
    OutcomeFrame s (s.recordOutcome x r) := by
  unfold State.recordOutcome
  split
  · exact ifElse rfl ((recordDue _ x r).after rfl)
  · rfl

theorem freeze (s : State) (c : TripCause) (f : Word) : OutcomeFrame s (s.freeze c f) := by
  unfold State.freeze
  split
  · exact ifElse rfl rfl
  · rfl

/-- What follows a skip once the buffer has its outcome. -/
theorem giveSkip (s : State) (x : BufferId) (c : SkipCause) (r : CycleReport) :
    OutcomeFrame (s.updDesc x fun d => { d with outcome := some .skipped, skip := some c })
      (s.giveSkip x c r) := by
  have h := (recordOutcome _ x r).after (superviseSkip
    (s.updDesc x fun d => { d with outcome := some .skipped, skip := some c }) (s.desc x).tag c)
  exact ifElse ((freeze _ _ _).after h) h

end OutcomeFrame

/-! ### A swap and an apply at an attach -/

/-- Between `s` and `t` only the memory controller, the filter and the control link port differ. -/
def StagedFrame (s t : State) : Prop := t = { s with mmc := t.mmc, tfu := t.tfu, clp := t.clp }

namespace StagedFrame

variable {s t u : State}

theorem trans (h : StagedFrame s t) (k : StagedFrame t u) : StagedFrame s u := Eq.trans k (by rw [h])

theorem makeSwap (s : State) (tag : Option Word) : StagedFrame s (s.makeSwap tag) := by
  unfold State.makeSwap
  split <;> rfl

theorem filterAttach (s : State) (tag : Word) : StagedFrame s (s.filterAttach tag) := by
  unfold State.filterAttach
  split
  · split <;> rfl
  · rfl

theorem sau (h : StagedFrame s t) : t.sau = s.sau := by rw [h]
theorem ctu (h : StagedFrame s t) : t.ctu = s.ctu := by rw [h]
theorem rce (h : StagedFrame s t) : t.rce = s.rce := by rw [h]
theorem lsv (h : StagedFrame s t) : t.lsv = s.lsv := by rw [h]
theorem desc (h : StagedFrame s t) (x : BufferId) : t.desc x = s.desc x := by rw [h]; cases x <;> rfl

end StagedFrame

/-! ### Descriptors -/

theorem State.updDesc_congr {s : State} {x : BufferId} {f g : Descriptor → Descriptor}
    (h : f (s.desc x) = g (s.desc x)) : s.updDesc x f = s.updDesc x g := by
  cases x
  · show { s with sau := { s.sau with bufA := { s.sau.bufA with desc := f s.sau.bufA.desc } } } = _
    rw [show f s.sau.bufA.desc = g s.sau.bufA.desc from h]
    rfl
  · show { s with sau := { s.sau with bufB := { s.sau.bufB with desc := f s.sau.bufB.desc } } } = _
    rw [show f s.sau.bufB.desc = g s.sau.bufB.desc from h]
    rfl

theorem State.updDesc_id (s : State) (x : BufferId) : (s.updDesc x fun d => d) = s := by
  cases x <;> rfl

/-! ### The first six steps of an attach (R87) -/

/-- Step 2: bank and shift are those of the active bank. -/
def State.bankFixed (s : State) : State :=
  s.updRce fun e => { e with bank := some s.mmc.active, shift := some (s.bank s.mmc.active).shift }

/-- Steps 4 and 5: the attach timestamp and the cleared row sums, with nothing of another cycle left. -/
def State.cycleCleared (s : State) (x : BufferId) : State :=
  s.updRce fun e =>
    { e with
      attachedAt := some s.ctu.timebase
      sums := mapTable (fun i p => if i < s.actuators then 0 else p) e.sums
      block := none
      nextRow := 0
      residuals := []
      attached := some x }

theorem State.beginCycle_eq (s : State) (x : BufferId) :
    s.beginCycle x =
      ((((s.makeSwap (some (s.desc x).tag)).bankFixed).filterAttach (s.desc x).tag).cycleCleared x).updDesc x
        fun d => { d with relation := .attached } := rfl

/-! ### What the searches find -/

/-- A buffer that an engine may attach to: its cycle has begun, has no outcome and has not been attached. -/
def Descriptor.takeable (d : Descriptor) : Prop := d.owesOutcome = true ∧ d.relation = .none

theorem Descriptor.owesOutcome_iff (d : Descriptor) :
    d.owesOutcome = true ↔ d.state ≠ .free ∧ d.outcome = none := by
  simp [Descriptor.owesOutcome]

theorem Descriptor.takeable_of_awaits {d : Descriptor} (h : d.awaits = true) : d.takeable := by
  simp only [Descriptor.awaits, Bool.and_eq_true, beq_iff_eq] at h
  obtain ⟨⟨hstate, hrelation⟩, houtcome⟩ := h
  exact ⟨(d.owesOutcome_iff).mpr ⟨by simp [hstate], houtcome⟩, hrelation⟩

theorem State.state_of_openBuffer {s : State} {x : BufferId} (h : s.openBuffer = some x) :
    (s.desc x).state = .opened := by
  unfold State.openBuffer at h
  split at h
  · cases h
    assumption
  · split at h
    · cases h
      assumption
    · cases h

theorem State.state_of_freeBuffer {s : State} {x : BufferId} (h : s.freeBuffer = some x) :
    (s.desc x).state = .free := by
  unfold State.freeBuffer at h
  split at h
  · cases h
    assumption
  · split at h
    · cases h
      assumption
    · cases h

theorem State.takeable_of_oldestWaiting {s : State} {x : BufferId} (h : s.oldestWaiting = some x) :
    (s.desc x).takeable := by
  have hx := List.find?_some h
  exact Descriptor.takeable_of_awaits hx

theorem State.takeable_of_openToTake {s : State} {x : BufferId} (h : s.openToTake = some x) :
    (s.desc x).takeable := by
  have hx := List.find?_some h
  simp only [Bool.and_eq_true, beq_iff_eq] at hx
  obtain ⟨⟨hstate, hrelation⟩, houtcome⟩ := hx
  exact ⟨(Descriptor.owesOutcome_iff _).mpr ⟨by simp [hstate], houtcome⟩, hrelation⟩

theorem State.takeable_of_idleChoice {s : State} {x : BufferId} (h : s.idleChoice = some x) :
    s.rce.state = .idle ∧ s.running = true ∧ (s.desc x).takeable := by
  unfold State.idleChoice at h
  split at h
  · rename_i hidle
    refine ⟨hidle.1, hidle.2, ?_⟩
    split at h
    · split at h
      · exact State.takeable_of_oldestWaiting h
      · cases h
    · split at h
      · cases h
        exact State.takeable_of_openToTake ‹_›
      · exact State.takeable_of_oldestWaiting h
  · cases h

end Sys2Proof.Machine
end

section
/-! PROOF. A property of the whole machine that every step keeps. `CycleClosed I` asks that `I` be kept by the
smallest changes a cycle is made of, each with the facts that hold where it is made; `CycleClosed.stepClosed`
puts every event and every request together from them, once for all invariants of the cycle, the recorder and
the control link. While a skip is being told the property is asked of the state with its engine draining, and
while a pass is being ended of the state without the pass. -/

namespace Sys2Proof.Machine

/-! ### The changes of single blocks -/

/-- What can happen to the control link port. -/
inductive ControlMove (c : Clp) : Clp → Prop
  | raise (p : NoticePayload) :
      ControlMove c (if inMask c.mask p.kind then { c with notices := addNotice p c.notices } else c)
  | complete (r : Result) (ws : List Word) : ControlMove c { c.answer r ws with inExec := none }
  | setJob (j : Job) : ControlMove c { c with inExec := c.inExec.map fun e => { e with job := j } }
  | start (r : Request) (rest : List Request) (h : c.requests = r :: rest) (hexec : c.inExec = none)
      (hroom : c.replies.length < 16) :
      ControlMove c { c with requests := rest, inExec := some ⟨r, .now⟩, replies := c.replies ++ [.pending] }
  | choose : ControlMove c (if c.sending.isNone then c.chooseNext else c)
  | mask (m : BitVec 9) :
      ControlMove c { c with mask := m, notices := c.notices.filter fun n => inMask m n.payload.kind }
  | resetInHand : ControlMove c { c.answer .ok [] with resetInHand := true }
  | idle : ControlMove c c.takeIdle
  | opened : ControlMove c c.takeOpen
  | word (w : Word) : ControlMove c (c.takeWord w)
  | close : ControlMove c c.takeClose
  | lose : ControlMove c c.loseLine
  | arrival (r : Request) : ControlMove c (c.takeRequest r)
  | sent : ControlMove c { c with sending := none }

/-- Two states of the recorder whose store and record in writing stand in the same slots. -/
def Tmr.SameSlots (t t' : Tmr) : Prop :=
  t'.geometry = t.geometry ∧ t'.unread = t.unread ∧ t'.nextSlot = t.nextSlot ∧
    t'.writing.map Writing.slot = t.writing.map Writing.slot

/-- What can happen to the recorder. -/
inductive RecorderMove (t : Tmr) : Tmr → Prop
  | quiet {t' : Tmr} (h : t.SameSlots t') : RecorderMove t t'
  | begins (g : Geometry) (w : Writing) (hg : t.geometry = some g) (hfree : t.writing = none)
      (hroom : t.unread.length < g.capacity) (hslot : w.slot = t.nextSlot) :
      RecorderMove t { t with writing := some w }
  | overwrites (g : Geometry) (w : Writing) (oldest : UnreadRecord) (rest : List UnreadRecord)
      (hg : t.geometry = some g) (hfree : t.writing = none) (hfull : g.capacity ≤ t.unread.length)
      (hunread : t.unread = oldest :: rest) (hslot : w.slot = oldest.slot) :
      RecorderMove t { t with
        unread := rest, nextSlot := oldest.slot, writing := some w,
        counts := { t.counts with overwritten := t.counts.overwritten + 1 } }
  | joins (g : Geometry) (w : Writing) (hg : t.geometry = some g) (hw : t.writing = some w) :
      RecorderMove t { t with
        writing := none
        unread := t.unread ++ [⟨w.slot, w.tag, w.sections⟩]
        nextSlot := if w.slot + 1 < g.capacity then w.slot + 1 else 0
        counts := { t.counts with written := t.counts.written + 1 } }
  | cuts : RecorderMove t { t with writing := none, counts := { t.counts with cut := t.counts.cut + 1 } }
  | drops (n : Nat) : RecorderMove t { t with unread := t.unread.drop n }
  | configures (c : TelemetryConfig) (hfree : t.writing = none) :
      RecorderMove t { t with config := some c, unread := [], geometry := none, nextSlot := 0 }
  | enables (g : Geometry) (hfree : t.writing = none) (h : 2 ≤ g.capacity) :
      RecorderMove t { t with
        geometry := some g, enabled := true, frozen := false, decimated := 0, sequence := 0, unread := [],
        nextSlot := 0, counts := .zero }

/-- What can happen to the filter, a pass's start and end apart. -/
inductive FilterMove (s : State) : Tfu → Prop
  | flags (pending due : Bool) (tag : Word) :
      FilterMove s { s.tfu with applyPending := pending, applyDue := due, applyTag := tag }
  | apply (h : s.tfu.pass = none ∨ s.running = false) : FilterMove s s.tfu.apply
  | shadow (first : Nat) (ps : List ActuatorParams) (h : ∀ p ∈ ps, p.lo.toInt ≤ p.hi.toInt) :
      FilterMove s { s.tfu with shadow := writeFrom s.tfu.shadow first ps }
  | shadowPairs (l : PairList) : FilterMove s { s.tfu with shadowPairs := l }
  | preset (first : Nat) (values : List Word) :
      FilterMove s { s.tfu with active := mapTable (presetRecord first values) s.tfu.active }
  | clearSaturations :
      FilterMove s { s.tfu with active := mapTable (fun _ r => { r with saturations := 0 }) s.tfu.active }
  | writeBack (p : FilterPass) (h : s.tfu.pass = some p) :
      FilterMove s (s.tfu.writeBack (s.tfu.passResult p).1)

/-- The supervisor's counts of the cycle's outcomes are the same, and a loop that ran still runs. -/
def Lsv.Keeps (v v' : Lsv) : Prop :=
  (v'.loop = .stopped → v.loop = .stopped) ∧ v'.counts.opened = v.counts.opened ∧
    v'.counts.completed = v.counts.completed ∧ v'.counts.skippedMissing = v.counts.skippedMissing ∧
    v'.counts.skippedMemory = v.counts.skippedMemory ∧ v'.counts.abandoned = v.counts.abandoned

theorem Lsv.Keeps.refl (v : Lsv) : v.Keeps v := ⟨id, rfl, rfl, rfl, rfl, rfl⟩

/-- A closure is counted apart from the outcomes. -/
theorem Lsv.Keeps.countClosure (v : Lsv) (c : ClosureCause) :
    v.Keeps { v with counts := Machine.countClosure c v.counts } := by
  cases c <;> exact ⟨id, rfl, rfl, rfl, rfl, rfl⟩

/-- Two descriptors of the same cycle at the same point of its life. -/
def Descriptor.SamePoint (d d' : Descriptor) : Prop :=
  d'.state = d.state ∧ d'.relation = d.relation ∧ d'.outcome = d.outcome

/-! ### States beside the present one -/

/-- The state with its engine draining: as it will be left when a skip has been told. -/
def State.drained (s : State) : State := s.updRce fun e => { e with state := .draining }

/-- The state without its running pass: as the end of the pass leaves it. -/
def State.passless (s : State) : State := s.updTfu fun t => { t with pass := none }

/-- The state with loop state `l`. -/
def State.inLoop (s : State) (l : LoopState) : State := s.updLsv fun v => { v with loop := l }

/-- The engine has let go of its cycle. -/
def Rce.released (e : Rce) : Rce :=
  { e with state := .idle, attached := none, bank := none, shift := none, attachedAt := none, block := none,
           nextRow := 0, residuals := [] }

/-- A buffer the engine lets go of: an engine relation of ATTACHED becomes DONE. -/
def Descriptor.letGo (d : Descriptor) : Descriptor :=
  if d.relation = .attached then { d with relation := .done } else d

/-- The pass that starts on an offer (R109). -/
def State.passOffered (s : State) (x : BufferId) : FilterPass :=
  { buffer := x, tag := (s.desc x).tag, bank := s.rce.bank.getD s.mmc.active,
    attachedAt := s.rce.attachedAt.getD s.ctu.timebase, loop := s.lsv.loop, residuals := s.rce.residuals,
    values := (s.tfu.active.toList.take s.actuators).map (·.acc) }

/-- The pass that starts on the offer runs. -/
def State.passStarted (s : State) (x : BufferId) : State :=
  s.updTfu fun t => { t with pass := some (s.passOffered x) }

theorem State.takeOffer_eq (s : State) (x : BufferId) : s.takeOffer x = (s.passStarted x).engineLetsGo := rfl

/-- What letting go does, by the buffer the engine is attached to. -/
theorem State.engineLetsGo_of_some {s : State} {x : BufferId} (h : s.rce.attached = some x) :
    s.engineLetsGo =
      if (s.desc x).relation = .attached then
        ((s.updRce Rce.released).updDesc x Descriptor.letGo).freeIfReleased x
      else (s.updRce Rce.released).updDesc x Descriptor.letGo := by
  have hletGo := State.updDesc_congr (s := s.updRce Rce.released) (x := x) (f := Descriptor.letGo)
    (g := fun d => if (s.desc x).relation = .attached then { d with relation := .done } else d) rfl
  unfold State.engineLetsGo
  rw [h, hletGo]
  dsimp only
  split
  · rfl
  · exact (State.updDesc_id _ x).symm

theorem State.engineLetsGo_of_none {s : State} (h : s.rce.attached = none) :
    s.engineLetsGo = s.updRce Rce.released := by
  unfold State.engineLetsGo
  rw [h]
  rfl

/-- The cycle of buffer `x` has its outcome SKIPPED, and the supervisor has counted it (R126). -/
def State.skipped (s : State) (x : BufferId) (cause : SkipCause) (n : Word) : State :=
  (s.updDesc x fun d => { d with outcome := some .skipped, skip := some cause }).updLsv fun v =>
    { v with skips := n, counts := countSkip cause v.counts }

/-- The cycle of buffer `x` has its outcome COMPLETED, and the supervisor has counted it (R125). -/
def State.completed (s : State) (x : BufferId) (saturated adjustments : Nat) : State :=
  (s.updLsv fun v => { v with
    skips := 0
    counts := { v.counts with
      completed := v.counts.completed + 1
      actuatorSaturations := addCount v.counts.actuatorSaturations saturated
      pairAdjustments := addCount v.counts.pairAdjustments adjustments } }).updDesc x fun d =>
        { d with outcome := some .completed }

/-- The engine takes the blocks of buffer `x`: it is at work on it, or an attach is under way. -/
def State.TakesBlocksOf (s : State) (x : BufferId) : Prop :=
  s.rce.attached = some x ∧ (s.rce.state = .waiting ∨ s.rce.state = .busy ∨
    s.rce.state = .idle ∧ s.running = true ∧ (s.desc x).relation = .attached ∧ (s.desc x).owesOutcome = true)

/-! ### The closure -/

/-- A property kept by what changes neither the engine's hold on a buffer, nor a pass, nor an outcome. -/
structure QuietClosed (I : State → Prop) : Prop where
  outside : ∀ (s : State) q r a b n, I s →
    I { s with pending := q, inReset := r, ringOut := a, controlOut := b, drawn := n }
  links : ∀ (s : State) v, I s → I { s with links := v }
  ring : ∀ s f, I s → I (s.updDrp f)
  memory : ∀ s f, I s → I (s.updMmc f)
  control : ∀ s f, ControlMove s.clp (f s.clp) → I s → I (s.updClp f)
  recorder : ∀ s f, RecorderMove s.tmr (f s.tmr) → I s → I (s.updTmr f)
  supervisor : ∀ s f, s.lsv.Keeps (f s.lsv) → I s → I (s.updLsv f)
  timing : ∀ s f, (f s.ctu).deadlineAt = s.ctu.deadlineAt ∨ (f s.ctu).deadlineAt = none → I s → I (s.updCtu f)
  assembly : ∀ s f, (f s.sau).bufA = s.sau.bufA → (f s.sau).bufB = s.sau.bufB → I s → I (s.updSau f)
  contents : ∀ s x f, (s.buffer x).desc.SamePoint (f (s.buffer x)).desc → I s → I (s.updBuffer x f)
  engine : ∀ s f, (f s.rce).state = s.rce.state → (f s.rce).attached = s.rce.attached → I s → I (s.updRce f)
  retires : ∀ s x, (s.desc x).state = .closed → (s.desc x).outcome ≠ none → I s →
    I (s.updDesc x fun d => { d with state := .retiring })
  frees : ∀ s x, (s.desc x).state = .retiring → (s.desc x).relation ≠ .attached → I s →
    I (s.updDesc x fun d => { d with state := .free })

/-- A property kept, too, when an engine lets go of its cycle. -/
structure LettingClosed (I : State → Prop) : Prop extends QuietClosed I where
  drains : ∀ s, I s → I s.drained
  rests : ∀ s, I s.drained → s.rce.state = .idle ∨ s.rce.state = .draining → I s
  lets : ∀ s x, s.rce.state = .draining → I s → I (s.updDesc x Descriptor.letGo)
  releases : ∀ s, s.rce.state = .draining → I s → I (s.updRce Rce.released)

/-- A property kept by every change a cycle is made of but the opening of a buffer. -/
structure CycleClosed (I : State → Prop) : Prop extends LettingClosed I where
  filter : ∀ s f, FilterMove s (f s.tfu) → I s → I (s.updTfu f)
  targets : ∀ s f, s.rce.state = .idle → (f s.rce).state = .idle → I s → I (s.updRce f)
  attaches : ∀ s x, s.rce.state = .idle → (s.desc x).takeable → I s →
    I (s.updDesc x fun d => { d with relation := .attached })
  works : ∀ s x f, s.TakesBlocksOf x → (f s.rce).attached = some x →
    ((f s.rce).state = .waiting ∨ (f s.rce).state = .busy ∨
      (f s.rce).state = .delivering ∧ (s.desc x).state ≠ .opened) → I s → I (s.updRce f)
  offers : ∀ s x, s.rce.state = .delivering → s.rce.attached = some x → s.tfu.pass = none → I s →
    I (((s.passStarted x).updRce Rce.released).updDesc x Descriptor.letGo)
  closes : ∀ s x c, (s.desc x).state = .opened → I s → I (s.markClosed x c)
  skipsMissing : ∀ s x c n, (s.desc x).state = .opened → (s.desc x).outcome = none →
    s.rce.state = .draining ∨ (s.desc x).relation ≠ .attached → I s → I ((s.markClosed x c).skipped x .missing n)
  skipsMemory : ∀ s x n, s.rce.state = .busy → s.rce.attached = some x → I s → I (s.drained.skipped x .memory n)
  completes : ∀ s p n m, s.tfu.pass = some p → I s → I (s.passless.completed p.buffer n m)

namespace QuietClosed

variable {I : State → Prop}

/-! ### The states beside the present one are kept alike -/

theorem drained (h : QuietClosed I) : QuietClosed fun s => I s.drained where
  outside s := h.outside s.drained
  links s := h.links s.drained
  ring s := h.ring s.drained
  memory s := h.memory s.drained
  control s := h.control s.drained
  recorder s := h.recorder s.drained
  supervisor s := h.supervisor s.drained
  timing s := h.timing s.drained
  assembly s := h.assembly s.drained
  contents s := h.contents s.drained
  engine s f _ hx := h.engine s.drained (fun _ => { f s.rce with state := .draining }) rfl hx
  retires s := h.retires s.drained
  frees s := h.frees s.drained

theorem passless (h : QuietClosed I) : QuietClosed fun s => I s.passless where
  outside s := h.outside s.passless
  links s := h.links s.passless
  ring s := h.ring s.passless
  memory s := h.memory s.passless
  control s := h.control s.passless
  recorder s := h.recorder s.passless
  supervisor s := h.supervisor s.passless
  timing s := h.timing s.passless
  assembly s := h.assembly s.passless
  contents s := h.contents s.passless
  engine s := h.engine s.passless
  retires s := h.retires s.passless
  frees s := h.frees s.passless

/-- Counting what is no outcome. -/
theorem counts (h : QuietClosed I) {s : State} {f : CycleCounts → CycleCounts}
    (hf : s.lsv.Keeps { s.lsv with counts := f s.lsv.counts }) (hs : I s) : I (s.updCounts f) :=
  h.supervisor s _ hf hs

/-- A change of a descriptor that leaves its cycle at the same point. -/
theorem descContents (h : QuietClosed I) {s : State} {x : BufferId} {f : Descriptor → Descriptor}
    (hf : (s.desc x).SamePoint (f (s.desc x))) (hs : I s) : I (s.updDesc x f) :=
  h.contents s x _ hf hs

/-- The state with another loop state, as the entry to STOPPED has found it. -/
theorem inLoop (h : QuietClosed I) (l : LoopState) : QuietClosed fun s => I (s.inLoop l) where
  outside s := h.outside (s.inLoop l)
  links s := h.links (s.inLoop l)
  ring s := h.ring (s.inLoop l)
  memory s := h.memory (s.inLoop l)
  control s := h.control (s.inLoop l)
  recorder s := h.recorder (s.inLoop l)
  supervisor s f hf := h.supervisor (s.inLoop l) (fun _ => { f s.lsv with loop := l }) ⟨id, hf.2⟩
  timing s := h.timing (s.inLoop l)
  assembly s := h.assembly (s.inLoop l)
  contents s := h.contents (s.inLoop l)
  engine s := h.engine (s.inLoop l)
  retires s := h.retires (s.inLoop l)
  frees s := h.frees (s.inLoop l)

/-! ### The control link, the supervisor -/

theorem raise (h : QuietClosed I) {s : State} (p : NoticePayload) (hs : I s) : I (s.raise p) :=
  h.control s _ (.raise p) hs

theorem complete (h : QuietClosed I) {s : State} (r : Result) (ws : List Word) (hs : I s) :
    I (s.complete r ws) := h.control s _ (.complete r ws) hs

theorem setJob (h : QuietClosed I) {s : State} (j : Job) (hs : I s) : I (s.setJob j) :=
  h.control s _ (.setJob j) hs

theorem link (h : QuietClosed I) {s : State} (l : Link) (f : LinkState → LinkState) (hs : I s) :
    I (s.updLink l f) := h.links s _ hs

theorem returnOutcome (h : QuietClosed I) {s : State} (l : Link) (o : PacketOutcome) (hs : I s) :
    I (s.returnOutcome l o) := h.links s _ hs

theorem trip (h : QuietClosed I) {s : State} (c : TripCause) (f : Word) (v l : Nat) (hs : I s) :
    I (s.trip c f v l) :=
  h.raise _ (h.supervisor s _ ⟨fun hstopped => (nomatch hstopped), rfl, rfl, rfl, rfl, rfl⟩ hs)

theorem reportIdle (h : QuietClosed I) {s : State} (hs : I s) : I s.reportIdle := by
  unfold State.reportIdle
  split
  · split
    · exact h.complete _ _ (h.supervisor s _ (Lsv.Keeps.refl _) hs)
    · exact hs
  · exact hs

/-! ### The recorder -/

/-- A change of the recorder that moves no slot. -/
theorem recorderQuiet (h : QuietClosed I) {s : State} {f : Tmr → Tmr} (hf : s.tmr.SameSlots (f s.tmr))
    (hs : I s) : I (s.updTmr f) := h.recorder s f (.quiet hf) hs

theorem freeIfReleased (h : QuietClosed I) {s : State} (x : BufferId) (hs : I s) : I (s.freeIfReleased x) := by
  unfold State.freeIfReleased
  split
  · rename_i hx
    exact h.frees s x hx.1 hx.2.1 hs
  · exact hs

theorem retire (h : QuietClosed I) {s : State} {x : BufferId} (hx : (s.desc x).outcome ≠ none) (hs : I s) :
    I (s.retire x) := by
  unfold State.retire
  split
  · exact h.retires s x ‹_› hx hs
  · exact hs

theorem presentRecord (h : QuietClosed I) {s : State} (hs : I s) : I s.presentRecord := by
  unfold State.presentRecord
  split
  · rename_i w g c hw hg hc
    split
    · refine h.recorderQuiet ⟨rfl, rfl, rfl, ?_⟩ (h.memory s _ hs)
      simp [hw]
    · exact hs
  · exact hs

theorem releaseHold (h : QuietClosed I) {s : State} (hs : I s) : I s.releaseHold := by
  unfold State.releaseHold
  split
  · rename_i w hw
    refine h.freeIfReleased _ (h.recorderQuiet ⟨rfl, rfl, rfl, ?_⟩ hs)
    simp [hw]
  · exact hs

theorem joinUnread (h : QuietClosed I) {s : State} (hs : I s) : I s.joinUnread := by
  unfold State.joinUnread
  split
  · rename_i w g c hw hg hc
    have hjoined := h.recorder s (fun t => { t with
        writing := none
        unread := t.unread ++ [⟨w.slot, w.tag, w.sections⟩]
        nextSlot := if w.slot + 1 < g.capacity then w.slot + 1 else 0
        counts := { t.counts with written := t.counts.written + 1 } }) (.joins g w hg hw) hs
    exact iteInduction (motive := I) (fun _ => h.raise _ hjoined) fun _ => hjoined
  · exact hs

theorem recordBurstEnded (h : QuietClosed I) {s : State} (row : Nat) (hs : I s) :
    I (s.recordBurstEnded row) := by
  unfold State.recordBurstEnded
  split
  · rename_i w g hw hg
    have hreleased : I (if w.holds ∧ row = lastSlopeBurst s.tmr.layout g then s.releaseHold else s) := by
      split
      · exact h.releaseHold hs
      · exact hs
    dsimp only
    split
    · exact h.joinUnread hreleased
    · exact hreleased
  · exact hs

theorem cutRecord (h : QuietClosed I) {s : State} (hs : I s) : I s.cutRecord := by
  unfold State.cutRecord
  split
  · exact h.freeIfReleased _ (h.recorder _ _ .cuts (h.memory s _ hs))
  · exact hs

/-- A record starts where the writing of it is a move of the recorder. -/
theorem startRecord (h : QuietClosed I) {s : State} (x : BufferId) (r : CycleReport) {g : Geometry}
    (hg : s.tmr.geometry = some g)
    (hw : ∀ w, w.slot = s.tmr.nextSlot → I (s.updTmr fun t => { t with writing := some w })) :
    I (s.startRecord x r) := by
  unfold State.startRecord
  rw [hg]
  exact h.presentRecord (hw _ rfl)

theorem recordDue (h : QuietClosed I) {s : State} (x : BufferId) (r : CycleReport) (hs : I s) :
    I (s.recordDue x r) := by
  unfold State.recordDue
  split
  · rename_i g c hg hc
    dsimp only
    split
    · exact h.recorderQuiet ⟨rfl, rfl, rfl, rfl⟩ hs
    · rename_i hnot
      have hfree : s.tmr.writing = none := by simpa using hnot
      split
      · rename_i hroom
        exact h.startRecord x r hg fun w hslot => h.recorder s _ (.begins g w hg hfree hroom hslot) hs
      · rename_i hfull
        split
        · exact h.recorderQuiet ⟨rfl, rfl, rfl, rfl⟩ hs
        · split
          · exact h.recorderQuiet ⟨rfl, rfl, rfl, rfl⟩ hs
          · rename_i oldest rest hunread
            split
            · exact h.recorderQuiet ⟨rfl, rfl, rfl, rfl⟩ hs
            · exact h.startRecord x r hg fun w hslot => h.recorder s (fun t => { t with
                  unread := rest, nextSlot := oldest.slot, writing := some w,
                  counts := { t.counts with overwritten := t.counts.overwritten + 1 } })
                (.overwrites g w oldest rest hg hfree (Nat.not_lt.mp hfull) hunread hslot) hs
  · exact hs

theorem recordOutcome (h : QuietClosed I) {s : State} (x : BufferId) (r : CycleReport) (hs : I s) :
    I (s.recordOutcome x r) := by
  unfold State.recordOutcome
  split
  · split
    · exact h.recorderQuiet ⟨rfl, rfl, rfl, rfl⟩ hs
    · exact h.recordDue x r (h.recorderQuiet ⟨rfl, rfl, rfl, rfl⟩ hs)
  · exact hs

theorem freeze (h : QuietClosed I) {s : State} (c : TripCause) (f : Word) (hs : I s) : I (s.freeze c f) := by
  unfold State.freeze
  split
  · split
    · exact h.raise _ (h.recorderQuiet ⟨rfl, rfl, rfl, rfl⟩ hs)
    · exact hs
  · exact hs

/-! ### Outcomes -/

/-- A skip told: everything follows from the outcome given and counted. -/
theorem giveSkip (h : QuietClosed I) {s : State} {x : BufferId} {cause : SkipCause} (r : CycleReport)
    (hs : I (s.skipped x cause (satSucc s.lsv.skips))) : I (s.giveSkip x cause r) := by
  have htold : I ((s.updDesc x fun d => { d with outcome := some .skipped, skip := some cause }).superviseSkip
      (s.desc x).tag cause) :=
    iteInduction (motive := I) (fun _ => h.trip _ _ _ _ (h.raise _ hs)) fun _ => h.raise _ hs
  have hrecorded := h.recordOutcome x r htold
  exact iteInduction (motive := I) (fun _ => h.freeze _ _ hrecorded) fun _ => hrecorded

/-- A completion told: everything follows from the outcome given and counted. -/
theorem completionGiven (h : QuietClosed I) {s : State} {p : FilterPass} {n m : Nat} (r : CycleReport)
    (hs : I (s.completed p.buffer n m)) : I (s.completionGiven p n m r) := by
  have htold : I ((s.superviseCompletion p.tag n m).updDesc p.buffer fun d =>
      { d with outcome := some .completed }) := by
    unfold State.superviseCompletion
    dsimp only
    split
    · exact h.trip .saturation p.tag n s.lsv.saturationLimit hs
    · exact hs
  refine h.freeIfReleased _ (h.retire ?_ (h.recordOutcome _ r htold))
  rw [(OutcomeFrame.recordOutcome _ _ r).desc, State.desc_updDesc_same]
  exact fun hnone => nomatch hnone

/-! ### The arbiter and the host channel -/

theorem presentRow (h : QuietClosed I) {s : State} (hs : I s) : I s.presentRow := by
  unfold State.presentRow
  split
  · split
    · exact h.engine _ _ rfl rfl (h.memory s _ hs)
    · exact hs
  · exact hs

theorem presentHost (h : QuietClosed I) {s : State} (hs : I s) : I s.presentHost := by
  unfold State.presentHost
  split
  · exact h.setJob _ (h.memory s _ hs)
  · exact hs

theorem grantBurst (h : QuietClosed I) {s : State} (hs : I s) : I s.grantBurst := by
  unfold State.grantBurst
  split
  · exact hs
  · split
    · exact h.presentRow (h.memory s _ hs)
    · exact h.presentRecord (h.memory s _ hs)
    · exact h.presentHost (h.memory s _ hs)
    · exact hs

theorem freePort (h : QuietClosed I) {s : State} (first : Bool) (hs : I s) : I (s.freePort first) :=
  iteInduction (motive := I) (fun _ => h.grantBurst (h.memory s _ hs)) fun _ => h.memory s _ hs

theorem hostDone (h : QuietClosed I) {s : State} (kind : TransferKind) (got : List Word) (hs : I s) :
    I (s.hostDone kind got) := by
  cases kind with
  | writeMatrix => exact h.complete _ _ hs
  | readMatrix => exact h.complete _ _ hs
  | readTelemetry skip count => exact h.complete _ _ (h.recorderQuiet ⟨rfl, rfl, rfl, rfl⟩ hs)

theorem hostBurstEnded (h : QuietClosed I) {s : State} (ws : List Word) (hs : I s) :
    I (s.hostBurstEnded ws) := by
  unfold State.hostBurstEnded
  split
  · split
    · exact h.hostDone _ _ hs
    · exact h.setJob _ hs
  · exact hs

theorem hostReadFails (h : QuietClosed I) {s : State} (b : Burst) (hs : I s) : I (s.hostReadFails b) :=
  h.complete _ _ (h.recorderQuiet (s := s.updMmc _) ⟨rfl, rfl, rfl, rfl⟩ (h.memory s _ hs))

theorem writeEnded (h : QuietClosed I) {s : State} (b : Burst) (hs : I s) : I (s.writeEnded b) := by
  unfold State.writeEnded
  split
  · exact hs
  · split
    · exact h.recordBurstEnded _ hs
    · exact h.hostBurstEnded _ hs
    · exact h.hostBurstEnded _ hs
    · exact hs

theorem reportRead (h : QuietClosed I) {s : State} (b : Burst) (results : List EccResult) (hs : I s) :
    I (s.reportRead b results) :=
  iteInduction (motive := I) (fun _ => h.raise _ (h.memory s _ hs)) fun _ => h.memory s _ hs

/-! ### The drive ring and the sensor links -/

theorem sendRing (h : QuietClosed I) {s : State} (cs : List Code) (hs : I s) : I (s.sendRing cs) :=
  h.outside s _ _ _ _ _ hs

theorem leftRing (h : QuietClosed I) {s : State} (hs : I s) : I s.leftRing :=
  h.raise _ (h.ring s _ hs)

theorem readingReceive (h : QuietClosed I) {s : State} (c : Code) (hs : I s) : I (s.readingReceive c) := by
  have hrepeated : ∀ (t : State) c, I t → I (t.repeatCode c) := fun t c ht => h.ring _ _ (h.sendRing _ ht)
  unfold State.readingReceive
  dsimp only
  have hread := h.ring s (fun d => (d.readHead c).countViolation c) hs
  generalize s.updDrp (fun d => (d.readHead c).countViolation c) = t at hread
  split
  · unfold State.markOnRing
    split
    · exact h.ring _ _ (h.sendRing _ hread)
    · exact h.ring _ _ (hrepeated _ _ hread)
  · exact iteInduction (motive := I) (fun _ => h.raise _ (h.ring _ _ (hrepeated _ _ hread)))
      fun _ => hrepeated _ _ hread
  · exact h.ring _ _ (hrepeated _ _ hread)
  · split
    · exact h.leftRing (h.sendRing _ hread)
    · exact hrepeated _ _ hread
  · exact hrepeated _ _ hread

theorem ringReceive (h : QuietClosed I) {s : State} (c : Code) (hs : I s) : I (s.ringReceive c) := by
  unfold State.ringReceive
  split
  · exact h.sendRing _ hs
  · exact iteInduction (motive := I) (fun _ => h.ring _ _ (h.sendRing _ hs)) fun _ =>
      iteInduction (motive := I) (fun _ => h.ring _ _ (h.sendRing _ hs)) fun _ => h.sendRing _ hs
  · exact iteInduction (motive := I) (fun _ => hs) fun _ =>
      iteInduction (motive := I) (fun _ => iteInduction (motive := I) (fun _ => hs) fun _ => h.ring s _ hs)
        fun _ => iteInduction (motive := I) (fun _ => h.leftRing (h.sendRing _ hs))
          fun _ => h.readingReceive c (h.ring s _ hs)
  all_goals exact h.readingReceive c hs

theorem sendFreshMark (h : QuietClosed I) {s : State} (hs : I s) : I s.sendFreshMark :=
  iteInduction (motive := I) (fun _ => iteInduction (motive := I) (fun _ => h.ring _ _ (h.sendRing _ hs))
    fun _ => h.ring _ _ (h.sendRing _ hs)) fun _ => hs

theorem sensorIdle (h : QuietClosed I) {s : State} (l : Link) (hs : I s) : I (s.sensorIdle l) := by
  unfold State.sensorIdle
  split
  · exact h.raise _ (h.links s _ hs)
  all_goals exact hs

theorem sensorLoss (h : QuietClosed I) {s : State} (l : Link) (c : LossCause) (hs : I s) :
    I (s.sensorLoss l c) := by
  unfold State.sensorLoss
  split
  · exact h.raise _ (h.links s _ hs)
  · exact h.raise _ (h.links s _ hs)
  all_goals exact hs

end QuietClosed

namespace LettingClosed

variable {I : State → Prop}

theorem passless (h : LettingClosed I) : LettingClosed fun s => I s.passless where
  toQuietClosed := h.toQuietClosed.passless
  drains s := h.drains s.passless
  rests s := h.rests s.passless
  lets s := h.lets s.passless
  releases s := h.releases s.passless

/-! ### The engine lets go (R95, R96) -/

theorem engineLetsGo (h : LettingClosed I) {s : State} (hs : I s.drained) : I s.engineLetsGo := by
  cases hx : s.rce.attached with
  | none =>
    rw [State.engineLetsGo_of_none hx]
    exact h.releases s.drained rfl hs
  | some x =>
    have hlet : I ((s.updRce Rce.released).updDesc x Descriptor.letGo) :=
      h.releases (s.drained.updDesc x Descriptor.letGo) rfl (h.lets s.drained x rfl hs)
    rw [State.engineLetsGo_of_some hx]
    exact iteInduction (motive := I) (fun _ => h.freeIfReleased _ hlet) fun _ => hlet

theorem engineStops (h : LettingClosed I) {s : State} (hs : I s.drained) : I s.engineStops :=
  have hdropped : I s.dropEngineBurst.drained := h.drained.memory s _ hs
  iteInduction (motive := I) (fun _ => hdropped) fun _ => h.engineLetsGo hdropped

theorem abandon (h : LettingClosed I) {s : State} (hs : I s.drained) : I s.abandon := by
  unfold State.abandon
  split
  · exact h.rests s hs (.inl ‹_›)
  · exact h.rests s hs (.inr ‹_›)
  · exact h.engineLetsGo hs
  · exact h.engineLetsGo hs
  · exact h.engineStops hs

end LettingClosed

end Sys2Proof.Machine
end

section
/-! PROOF. Every event of a cycle put together from the changes of `CycleClosed`: attach and blocks, the offer,
the early ends of a cycle, closures, timers, copies, bursts and passes. -/

namespace Sys2Proof.Machine

namespace CycleClosed

variable {I : State → Prop}

/-! ### Attach and blocks (R80, R87 to R93) -/

theorem makeSwap (h : CycleClosed I) {s : State} (tag : Option Word) (hs : I s) : I (s.makeSwap tag) := by
  unfold State.makeSwap
  split
  · exact h.raise _ (h.memory s _ hs)
  · exact hs

theorem applyAt (h : CycleClosed I) {s : State} (e : ApplyEvent) (hpass : s.tfu.pass = none ∨ s.running = false)
    (hs : I s) : I (s.applyAt e) := h.raise _ (h.filter s _ (.apply hpass) hs)

theorem filterAttach (h : CycleClosed I) {s : State} (tag : Word) (hs : I s) : I (s.filterAttach tag) := by
  unfold State.filterAttach
  split
  · split
    · exact h.filter s _ (.flags _ _ _) hs
    · rename_i hnot
      exact h.applyAt _ (.inl (by simpa using hnot)) hs
  · exact hs

/-- The six steps before the first block, and where they leave the engine. -/
theorem beginCycle (h : CycleClosed I) {s : State} {x : BufferId} (hidle : s.rce.state = .idle)
    (hrun : s.running = true) (hx : (s.desc x).takeable) (hs : I s) :
    I (s.beginCycle x) ∧ (s.beginCycle x).TakesBlocksOf x := by
  have hswapped := StagedFrame.makeSwap s (some (s.desc x).tag)
  have hstaged := StagedFrame.filterAttach (s.makeSwap (some (s.desc x).tag)).bankFixed (s.desc x).tag
  have hfixed : I (s.makeSwap (some (s.desc x).tag)).bankFixed :=
    h.engine _ (fun e => { e with
      bank := some (s.makeSwap (some (s.desc x).tag)).mmc.active
      shift := some ((s.makeSwap (some (s.desc x).tag)).bank (s.makeSwap (some (s.desc x).tag)).mmc.active).shift })
      rfl rfl (h.makeSwap _ hs)
  have hkept := h.filterAttach (s.desc x).tag hfixed
  rw [State.beginCycle_eq]
  generalize State.filterAttach _ _ = t at hstaged hkept
  have hstate : t.rce.state = .idle := by
    rw [hstaged.rce, State.bankFixed, State.updRce_rce, hswapped.rce]
    exact hidle
  have hdesc : t.desc x = s.desc x := by
    rw [hstaged.desc]
    exact hswapped.desc x
  have hrunning : t.running = true := by
    rw [State.running, hstaged.lsv, State.bankFixed, State.updRce_lsv, hswapped.lsv]
    exact hrun
  constructor
  · refine h.attaches _ x hstate ?_ (h.targets t _ hstate hstate hkept)
    exact hdesc ▸ hx
  · refine ⟨rfl, .inr (.inr ⟨hstate, hrunning, ?_, ?_⟩)⟩
    · rw [State.desc_updDesc_same]
    · rw [State.desc_updDesc_same]
      exact (hdesc ▸ hx.1 : (t.desc x).owesOutcome = true)

/-- What the engine takes blocks of is not changed by the ready queue. -/
theorem takesBlocksOf_updDesc_ready {s : State} {x : BufferId} (ready : List Nat) (h : s.TakesBlocksOf x) :
    (s.updDesc x fun d => { d with ready := ready }).TakesBlocksOf x := by
  obtain ⟨hattached, hstate⟩ := h
  refine ⟨hattached, ?_⟩
  rw [State.desc_updDesc_same]
  exact hstate

theorem formResiduals (h : CycleClosed I) {s : State} {x : BufferId} (hw : s.TakesBlocksOf x)
    (hx : (s.desc x).state ≠ .opened) (hs : I s) : I s.formResiduals := by
  have hformed := h.works s x (fun e => { e with
      state := .delivering, block := none,
      residuals := (s.rce.sums.toList.take s.actuators).map (residualOf (s.rce.shift.getD 0)) })
    hw hw.1 (.inr (.inr ⟨rfl, hx⟩)) hs
  unfold State.formResiduals
  refine h.counts ?_ hformed
  exact ⟨id, rfl, rfl, rfl, rfl, rfl⟩

theorem takeBlocks (h : CycleClosed I) (x : BufferId) (gs : List Nat) {s : State} (hw : s.TakesBlocksOf x)
    (hs : I s) : I (State.takeBlocks x gs s) := by
  induction gs generalizing s with
  | nil =>
    have hready := h.descContents (f := fun d => { d with ready := [] }) (x := x) ⟨rfl, rfl, rfl⟩ hs
    have hw' := takesBlocksOf_updDesc_ready [] hw
    unfold State.takeBlocks
    dsimp only
    split
    · exact h.works _ x (fun e => { e with state := .waiting, block := none }) hw' hw.1 (.inl rfl) hready
    · exact h.formResiduals hw' ‹_› hready
  | cons g rest ih =>
    unfold State.takeBlocks
    refine iteInduction (motive := I) (fun _ => ?_) fun _ => ?_
    · exact h.presentRow (h.works _ x (fun e => { e with state := .busy, block := some g, nextRow := 0 })
        (takesBlocksOf_updDesc_ready rest hw) hw.1 (.inr (.inl rfl))
        (h.descContents (f := fun d => { d with ready := rest }) ⟨rfl, rfl, rfl⟩ hs))
    · exact ih hw (h.counts ⟨id, rfl, rfl, rfl, rfl, rfl⟩ hs)

theorem continueCycle (h : CycleClosed I) {s : State}
    (hw : ∀ x, s.rce.attached = some x → s.TakesBlocksOf x) (hs : I s) : I s.continueCycle := by
  unfold State.continueCycle
  split
  · exact h.takeBlocks _ _ (hw _ ‹_›) hs
  · exact hs

/-- An engine at work goes on. -/
theorem continueAtWork (h : CycleClosed I) {s : State} (hw : s.rce.state = .waiting ∨ s.rce.state = .busy)
    (hs : I s) : I s.continueCycle :=
  h.continueCycle (fun _ hx => ⟨hx, hw.elim .inl fun hbusy => .inr (.inl hbusy)⟩) hs

theorem attach (h : CycleClosed I) {s : State} {x : BufferId} (hidle : s.rce.state = .idle)
    (hrun : s.running = true) (hx : (s.desc x).takeable) (hs : I s) : I (s.attach x) := by
  obtain ⟨hkept, hw⟩ := h.beginCycle hidle hrun hx hs
  refine h.continueCycle (fun y hy => ?_) hkept
  obtain rfl : x = y := Option.some.inj (hw.1.symm.trans hy)
  exact hw

theorem attachOnIdle (h : CycleClosed I) {s : State} (hs : I s) : I s.attachOnIdle := by
  unfold State.attachOnIdle
  split
  · obtain ⟨hidle, hrun, hx⟩ := State.takeable_of_idleChoice ‹_›
    exact h.attach hidle hrun hx hs
  · exact hs

/-! ### The offer (R94, R109) -/

theorem takeOffer (h : CycleClosed I) {s : State} {x : BufferId} (hstate : s.rce.state = .delivering)
    (hattached : s.rce.attached = some x) (hpass : s.tfu.pass = none) (hs : I s) : I (s.takeOffer x) := by
  have hoffered := h.offers s x hstate hattached hpass hs
  rw [State.takeOffer_eq, State.engineLetsGo_of_some (s := s.passStarted x) hattached]
  exact iteInduction (motive := I) (fun _ => h.freeIfReleased _ hoffered) fun _ => hoffered

theorem offer (h : CycleClosed I) {s : State} (hs : I s) : I s.offer := by
  unfold State.offer
  split
  · exact h.attachOnIdle (h.takeOffer ‹_› ‹_› ‹_› hs)
  · exact hs

theorem enterIdle (h : CycleClosed I) {s : State} (hs : I s) : I s.enterIdle :=
  h.offer (h.attachOnIdle (h.reportIdle hs))

theorem attachNow (h : CycleClosed I) {s : State} {x : BufferId} (hidle : s.rce.state = .idle)
    (hrun : s.running = true) (hx : (s.desc x).takeable) (hs : I s) : I (s.attachNow x) :=
  h.offer (h.attach hidle hrun hx hs)

/-! ### Ending a cycle early (R95) -/

/-- The outcome a skip has given stands while it is told. -/
theorem outcome_giveSkip (s : State) (x : BufferId) (cause : SkipCause) (r : CycleReport) :
    ((s.giveSkip x cause r).desc x).outcome = some .skipped := by
  rw [(OutcomeFrame.giveSkip s x cause r).desc, State.desc_updDesc_same]

theorem memorySkip (h : CycleClosed I) {s : State} {x : BufferId} (hbusy : s.rce.state = .busy)
    (hattached : s.rce.attached = some x) (hs : I s) : I (s.memorySkip x) := by
  have htold := h.drained.giveSkip (s.skipReport x .memory)
    (h.skipsMemory s x (satSucc s.lsv.skips) hbusy hattached hs)
  have hstopped := h.engineStops (h.drained.retire (x := x) (by
      rw [State.desc_updDesc_same]
      exact (outcome_giveSkip s x .memory _).symm ▸ fun hnone => nomatch hnone)
    (h.drained.descContents (f := fun d => { d with ready := [] }) ⟨rfl, rfl, rfl⟩ htold))
  exact iteInduction (motive := I) (fun _ => h.enterIdle hstopped) fun _ => hstopped

theorem addRow (h : CycleClosed I) {s : State} (x : BufferId) (g row : Nat) (ws : List Word)
    (hbusy : s.rce.state = .busy) (hs : I s) : I (s.addRow x g row ws) := by
  have hadded := h.engine s
    (fun e => { e with sums := mapTable (fun i p =>
      if i = row then p + dotProduct (slotSlopes (s.buffer x).slots g) ws else p) e.sums }) rfl rfl hs
  exact iteInduction (motive := I)
    (fun _ => h.offer (h.continueAtWork (.inr hbusy) (h.engine _ (fun e => { e with block := none }) rfl rfl hadded)))
    fun _ => hadded

/-! ### Closures (R40 to R45) -/

/-- A cycle is skipped at its closure where the outcome may be given: with an engine attached to it on its
way to IDLE. -/
theorem skipMissing (h : CycleClosed I) {s : State} {x : BufferId}
    (hattached : (s.desc x).relation = .attached → I (s.skipped x .missing (satSucc s.lsv.skips)).drained)
    (hnot : (s.desc x).relation ≠ .attached → I (s.skipped x .missing (satSucc s.lsv.skips))) :
    I (s.skipMissing x) := by
  have hgiven : ((s.giveSkip x .missing (s.skipReport x .missing)).desc x).outcome ≠ none := by
    rw [outcome_giveSkip]
    exact fun hnone => nomatch hnone
  unfold State.skipMissing
  dsimp only
  split
  · have habandoned := h.abandon (h.drained.retire hgiven (h.drained.giveSkip _ (hattached ‹_›)))
    split
    · exact h.enterIdle habandoned
    · exact habandoned
  · exact h.freeIfReleased _ (h.retire hgiven (h.giveSkip _ (hnot ‹_›)))

theorem handOn (h : CycleClosed I) {s : State} (x : BufferId) (hs : I s) : I (s.handOn x) := by
  unfold State.handOn
  split
  · exact h.offer (h.attachOnIdle hs)
  · split
    · rename_i hwaiting
      exact h.offer (h.continueAtWork (.inl hwaiting.1) hs)
    · exact hs

/-- A closure, from the buffer marked CLOSED and the outcome it may be given. -/
theorem closeBuffer_of_marked (h : CycleClosed I) {s : State} {x : BufferId} {c : ClosureCause}
    (hclosed : I (s.markClosed x c))
    (hskip : (s.desc x).outcome = none →
      ((s.desc x).relation = .attached → I ((s.markClosed x c).skipped x .missing (satSucc s.lsv.skips)).drained) ∧
      ((s.desc x).relation ≠ .attached → I ((s.markClosed x c).skipped x .missing (satSucc s.lsv.skips)))) :
    I (s.closeBuffer x c) := by
  have hout : ((s.markClosed x c).desc x).outcome = (s.desc x).outcome := by cases x <;> rfl
  have hrelation : ((s.markClosed x c).desc x).relation = (s.desc x).relation := by cases x <;> rfl
  unfold State.closeBuffer
  dsimp only
  split
  · rename_i hsome
    exact h.freeIfReleased _ (h.retire (fun hnone => by simp [hnone] at hsome) hclosed)
  · rename_i hnot
    split
    · obtain ⟨hattached, hfree⟩ := hskip (by simpa [hout] using hnot)
      exact h.skipMissing (hrelation ▸ hattached) (hrelation ▸ hfree)
    · exact h.handOn x hclosed

theorem closeBuffer (h : CycleClosed I) {s : State} {x : BufferId} (c : ClosureCause)
    (hopen : (s.desc x).state = .opened) (hs : I s) : I (s.closeBuffer x c) :=
  h.closeBuffer_of_marked (h.closes s x c hopen hs) fun hout =>
    ⟨fun _ => h.skipsMissing s.drained x c _ hopen hout (.inl rfl) (h.drains s hs),
      fun hnot => h.skipsMissing s x c _ hopen hout (.inr hnot) hs⟩

theorem evaluateFinishing (h : CycleClosed I) {s : State} (x : BufferId) (hs : I s) :
    I (s.evaluateFinishing x) :=
  iteInduction (motive := I) (fun hx => h.closeBuffer _ hx.1 hs) fun _ => hs

theorem takeExpiry (h : CycleClosed I) {s : State} (hs : I s) : I s.takeExpiry := by
  unfold State.takeExpiry
  split
  · exact h.assembly s _ rfl rfl hs
  · split
    · exact h.closeBuffer _ (State.state_of_openBuffer ‹_›) hs
    · exact hs

/-! ### Timers and ticks (R51 to R58) -/

theorem deadlineExpires (h : CycleClosed I) {s : State} (hs : I s) : I s.deadlineExpires :=
  h.takeExpiry (h.timing s _ (.inr rfl) hs)

theorem tick (h : CycleClosed I) {s : State} (hs : I s) : I s.tick := by
  unfold State.tick
  split
  · rename_i hrun
    split
    · exact h.counts ⟨id, rfl, rfl, rfl, rfl, rfl⟩ hs
    · rename_i hidle
      split
      · exact h.attachNow (Classical.not_not.mp hidle) hrun.2 (State.takeable_of_oldestWaiting ‹_›) hs
      · exact h.counts ⟨id, rfl, rfl, rfl, rfl, rfl⟩ hs
  · exact hs

theorem paceExpires (h : CycleClosed I) {s : State} (p : Time) (hs : I s) : I (s.paceExpires p) :=
  h.tick (h.timing s _ (.inl rfl) hs)

theorem expireDue (h : CycleClosed I) {s : State} (hs : I s) : I s.expireDue := by
  have hdeadline : I (if s.ctu.deadlineAt = some s.ctu.timebase then s.deadlineExpires else s) :=
    iteInduction (motive := I) (fun _ => h.deadlineExpires hs) fun _ => hs
  exact iteInduction (motive := I) (fun _ => h.paceExpires _ hdeadline) fun _ => hdeadline

theorem tickPasses (h : CycleClosed I) {s : State} (hs : I s) : I s.tickPasses :=
  h.expireDue (h.timing _ _ (.inl rfl) (h.expireDue hs))

/-! ### Copies (R31, R34) -/

theorem storeBlock (h : CycleClosed I) {s : State} (c : Copy) (ws : List Word) (hs : I s) :
    I (s.storeBlock c ws) := h.contents s c.buffer _ ⟨rfl, rfl, rfl⟩ hs

theorem endCopy (h : CycleClosed I) {s : State} (hs : I s) : I s.endCopy := by
  cases hc : s.sau.copy with
  | none =>
    rw [State.endCopy_of_none hc]
    exact hs
  | some c =>
    rw [State.endCopy_of_some hc]
    have hstored : I (s.copyStored c) := h.links _ _ (h.assembly _ _ rfl rfl (h.storeBlock c _ hs))
    have hfed : I ((s.copyStored c).feedEngine c.buffer) :=
      iteInduction (motive := I) (fun hw => h.continueAtWork (.inl hw.1) hstored) fun _ => hstored
    have hevaluated := h.evaluateFinishing c.buffer hfed
    exact iteInduction (motive := I) (fun _ => h.takeExpiry (h.assembly _ _ rfl rfl hevaluated))
      fun _ => hevaluated

theorem matchSame (h : CycleClosed I) {s : State} (l : Link) (x : BufferId) (ws : List Word) (hs : I s) :
    I (s.matchSame l x ws) := by
  refine iteInduction (motive := I) (fun _ => ?_) fun _ => h.assembly s _ rfl rfl hs
  have hreturned : I (s.returnOutcome l .duplicate) := h.links s _ hs
  exact iteInduction (motive := I)
    (fun _ => h.evaluateFinishing x (h.contents _ x _ ⟨rfl, rfl, rfl⟩ hreturned)) fun _ => hreturned

/-! ### Bursts (R64, R65, R90, R95) -/

theorem engineBurstEnded (h : CycleClosed I) {s : State} (b : Burst) (bad : Bool) (ws : List Word) (hs : I s) :
    I (s.engineBurstEnded b bad ws) := by
  unfold State.engineBurstEnded
  split
  · exact iteInduction (motive := I) (fun _ => hs) fun _ => h.enterIdle (h.engineLetsGo (h.drains s hs))
  · split
    · exact hs
    · split
      · exact h.memorySkip ‹_› ‹_› hs
      · exact h.addRow _ _ _ _ ‹_› hs
  · exact hs

theorem readEnded (h : CycleClosed I) {s : State} (b : Burst) (bad : Bool) (ws : List Word) (hs : I s) :
    I (s.readEnded b bad ws) := by
  have hhost : I (if b.dropped then s else if bad then s.hostReadFails b else s.hostBurstEnded ws) :=
    iteInduction (motive := I) (fun _ => hs) fun _ =>
      iteInduction (motive := I) (fun _ => h.hostReadFails b hs) fun _ => h.hostBurstEnded ws hs
  unfold State.readEnded
  split
  · exact h.engineBurstEnded b bad ws hs
  · exact hhost
  · exact hhost
  · exact hs

theorem endBurst (h : CycleClosed I) {s : State} (first : Bool) (errors : List BitError) (hs : I s) :
    I (s.endBurst first errors) := by
  unfold State.endBurst
  split
  · exact hs
  · split
    · exact h.writeEnded _ (h.freePort first (h.memory s _ hs))
    · exact h.readEnded _ _ _ (h.freePort first (h.reportRead _ _ (h.outside _ _ _ _ _ _ (h.memory s _ hs))))

/-! ### The end of a pass (R113) -/

theorem completePass (h : CycleClosed I) {s : State} {p : FilterPass} (hp : s.tfu.pass = some p) (hs : I s) :
    I (s.completePass p).passless := by
  have hwritten : I ((s.passWritten p).sliceHandedOn p) := by
    have hwb : I (s.passWritten p) := h.filter s _ (.writeBack p hp) hs
    exact iteInduction (motive := I) (fun _ => h.ring _ _ hwb) fun _ => hwb
  have hpass : ((s.passWritten p).sliceHandedOn p).tfu.pass = some p :=
    iteInduction (motive := fun t : State => t.tfu.pass = some p) (fun _ => hp) fun _ => hp
  have hgiven := h.passless.completionGiven (s.passReport p)
    (h.completes _ p (saturatedCount (s.tfu.passResult p).1) (s.tfu.passResult p).2 hpass hwritten)
  rw [State.completePass_eq]
  exact iteInduction (motive := fun t : State => I t.passless) (fun _ => h.passless.freeze _ _ hgiven)
    fun _ => hgiven

theorem endPass (h : CycleClosed I) {s : State} (hs : I s) : I s.endPass := by
  unfold State.endPass
  split
  · rename_i p hp
    have hcompleted := h.completePass hp hs
    have happlied : I (s.completePass p).applyIfDue.passless :=
      iteInduction (motive := fun t : State => I t.passless)
        (fun _ => h.passless.raise _ (h.filter (s.completePass p).passless Tfu.apply (.apply (.inl rfl)) hcompleted))
        fun _ => hcompleted
    have hpreset : I (s.completePass p).applyIfDue.presetIfWaiting.passless := by
      unfold State.presetIfWaiting
      split
      · rename_i first values _
        exact h.passless.complete _ _ (h.filter (s.completePass p).applyIfDue.passless
          (fun t => { t with active := mapTable (presetRecord first values) t.active }) (.preset _ _) happlied)
      · exact happlied
    exact h.offer hpreset
  · exact hs

end CycleClosed

end Sys2Proof.Machine
end

section
/-! PROOF. The requests, the resets and the opening of a buffer put together: `MachineClosed.step` says that a
property kept by each change the machine is made of is kept by every step. -/

namespace Sys2Proof.Machine

/-- A slope buffer opened with a tag, the deadline timer started and the opening counted (R38, R53). -/
def State.opened (s : State) (x : BufferId) (tag : Word) : State :=
  (((s.updDesc x fun _ => { Descriptor.freed tag s.ctu.timebase 0 with state := .opened }).updSau fun a =>
    { a with lastOpened := x, closeOrder := a.closeOrder.filter (· != x) }).updCtu fun c =>
      { c with deadlineAt := some (c.timebase + microseconds c.deadline) }).updCounts fun c =>
        { c with opened := c.opened + 1 }

theorem State.openWith_eq (s : State) (x : BufferId) (tag : Word) :
    s.openWith x tag =
      if s.ctu.order = .stream ∧ s.rce.state = .idle then (s.opened x tag).attachNow x else s.opened x tag := rfl

/-- The SAU frees both buffers at the entry to STOPPED, and the supervisor counts what it abandons (R48,
R127). -/
def State.buffersFreed (s : State) : State := (s.superviseAbandon s.abandonCount).updSau Sau.free

/-- The deadline timer stops with them (R53). -/
def State.assemblyStopped (s : State) : State := s.buffersFreed.updCtu fun c => { c with deadlineAt := none }

theorem State.stopRecorder_lsv (s : State) : s.stopRecorder.lsv = s.lsv := by
  unfold State.stopRecorder State.cutRecord State.freeIfReleased
  split
  · split
    · split
      · dsimp only
        split <;> rfl
      · rfl
    · rfl
  · rfl

/-- The copy in progress ends NOT_STORED (R32). -/
def State.copyRefused (s : State) : State :=
  match s.sau.copy with
  | some c => s.returnOutcome c.link .notStored
  | none => s

theorem State.abandonCount_copyRefused (s : State) : s.copyRefused.abandonCount = s.abandonCount := by
  unfold State.copyRefused
  split <;> rfl

theorem State.copyRefused_lsv (s : State) : s.copyRefused.lsv = s.lsv := by
  unfold State.copyRefused
  split <;> rfl

theorem State.stopAssembly_eq (s : State) : s.stopAssembly = s.copyRefused.buffersFreed := by
  rw [State.buffersFreed, State.abandonCount_copyRefused]
  rfl

/-- A property of the whole machine that each change it is made of keeps. -/
structure MachineClosed (I : State → Prop) : Prop extends CycleClosed I where
  grants : ∀ s, I s → I s.grantCopy
  cutsOff : ∀ s, I s → I s.passless
  stops : ∀ (s : State) l, s.lsv.loop = .stopped → I (s.inLoop l).drained.passless → I s.assemblyStopped.drained.passless
  clears : ∀ s : State, s.running = false → I s → I (s.updLsv fun v => { v with skips := 0, counts := .zero })
  softReset : ∀ s, I s → I s.softResetAll
  hardReset : ∀ s : State, I s.hardResetAll

/-! ### The opening of a buffer (R29, R33 to R38) -/

namespace CycleClosed

variable {I : State → Prop}

theorem loopRuns : CycleClosed fun s => s.running = true where
  outside _ _ _ _ _ _ hs := hs
  links _ _ hs := hs
  ring _ _ hs := hs
  memory _ _ hs := hs
  control _ _ _ hs := hs
  recorder _ _ _ hs := hs
  supervisor s f hf hs := by
    simp only [State.running, bne_iff_ne, ne_eq] at hs ⊢
    exact fun hstopped => hs (hf.1 hstopped)
  timing _ _ _ hs := hs
  assembly _ _ _ _ hs := hs
  contents _ _ _ _ hs := hs
  engine _ _ _ _ hs := hs
  retires _ _ _ _ hs := hs
  frees _ _ _ _ hs := hs
  drains _ hs := hs
  rests _ hs _ := hs
  lets _ _ _ hs := hs
  releases _ _ hs := hs
  filter _ _ _ hs := hs
  targets _ _ _ _ hs := hs
  attaches _ _ _ _ hs := hs
  works _ _ _ _ _ _ hs := hs
  offers _ _ _ _ _ hs := hs
  closes _ _ _ _ hs := hs
  skipsMissing _ _ _ _ _ _ _ hs := hs
  skipsMemory _ _ _ _ _ hs := hs
  completes _ _ _ _ _ hs := hs

/-- A fresh buffer is one the engine may attach to. -/
theorem takeable_opened (s : State) (x : BufferId) (tag : Word) : ((s.opened x tag).desc x).takeable := by
  cases x <;> exact ⟨rfl, rfl⟩

theorem openWith (h : CycleClosed I) {s : State} {x : BufferId} {tag : Word} (hrun : s.running = true)
    (hs : I (s.opened x tag)) : I (s.openWith x tag) := by
  rw [State.openWith_eq]
  exact iteInduction (motive := I) (fun hidle => h.attachNow hidle.2 hrun (takeable_opened s x tag) hs)
    fun _ => hs

theorem matchNew (h : CycleClosed I) {s : State} (l : Link) (ws : List Word) (hrun : s.running = true)
    (hopens : ∀ x, (s.desc x).state = .free → I (s.opened x (packetFrame ws))) (hs : I s) :
    I (s.matchNew l ws) := by
  obtain ⟨o, ho⟩ | ⟨x, hx, hnew⟩ := s.matchNew_cases l ws
  · exact ho ▸ h.returnOutcome l o hs
  · exact hnew ▸ h.assembly _ _ rfl rfl (h.openWith hrun (hopens x (State.state_of_freeBuffer hx)))

theorem matchPacket (h : CycleClosed I) {s : State} (l : Link) (ws : List Word)
    (hopens : s.openBuffer = none → s.running = true →
      ∀ x, (s.desc x).state = .free → I (s.opened x (packetFrame ws)))
    (hovertakes : ∀ y, s.openBuffer = some y → s.running = true → (s.closeBuffer y .overtaken).running = true →
      I (s.closeBuffer y .overtaken) → ∀ x, ((s.closeBuffer y .overtaken).desc x).state = .free →
        I ((s.closeBuffer y .overtaken).opened x (packetFrame ws))) (hs : I s) :
    I (s.matchPacket l ws) := by
  unfold State.matchPacket
  split
  · exact h.returnOutcome l _ hs
  · rename_i hrefused
    have hrun : s.running = true := by
      rw [not_or, Bool.not_eq_false] at hrefused
      exact hrefused.1
    split
    · rename_i y hy
      split
      · exact h.matchSame l y ws hs
      · split
        · have hclosed := h.closeBuffer .overtaken (State.state_of_openBuffer hy) hs
          have hruns := loopRuns.closeBuffer .overtaken (State.state_of_openBuffer hy) hrun
          exact h.matchNew l ws hruns (hovertakes y hy hrun hruns hclosed) hclosed
        · exact h.returnOutcome l _ hs
    · exact h.matchNew l ws hrun (hopens ‹_› hrun) hs

/-- The grant of a copy, from what it takes to open a buffer. -/
theorem grantCopy (h : CycleClosed I)
    (hopens : ∀ s x tag, s.openBuffer = none → s.running = true → (s.desc x).state = .free → I s →
      I (s.opened x tag))
    (hovertakes : ∀ s x y tag, s.openBuffer = some y → (s.closeBuffer y .overtaken).running = true → I s →
      I (s.closeBuffer y .overtaken) → ((s.closeBuffer y .overtaken).desc x).state = .free →
        I ((s.closeBuffer y .overtaken).opened x tag)) {s : State} (hs : I s) : I s.grantCopy := by
  unfold State.grantCopy
  split
  · exact hs
  · split
    · split
      · rename_i l _ _ ws _
        have hrotated : I (s.updSau fun u => { u with rotation := l }) := h.assembly s _ rfl rfl hs
        exact h.matchPacket l ws (fun hnone hrun x hx => hopens _ x _ hnone hrun hx hrotated)
          (fun y hy _ hruns hclosed x hx => hovertakes _ x y _ hy hruns hrotated hclosed hx) hrotated
      · exact hs
    · exact hs

/-- The same for a property that an opening keeps whatever the other buffer does. -/
theorem grantCopy_of_opens (h : CycleClosed I)
    (hopens : ∀ s x tag, s.running = true → (s.desc x).state = .free → I s → I (s.opened x tag)) {s : State}
    (hs : I s) : I s.grantCopy :=
  h.grantCopy (fun s x tag _ => hopens s x tag) (fun _ x _ tag _ hrun _ hclosed hx => hopens _ x tag hrun hx hclosed)
    hs

end CycleClosed

namespace MachineClosed

variable {I : State → Prop}

/-! ### Events -/

theorem finishMessage (h : MachineClosed I) {s : State} (hs : I s) : I s.finishMessage := by
  unfold State.finishMessage
  split
  · rename_i m _
    have hsent : I ((s.sendControl m.codes).updClp fun c => { c with sending := none }) :=
      h.control (s.sendControl m.codes) _ .sent (h.outside s _ _ _ _ _ hs)
    exact iteInduction (motive := I) (fun _ => h.softReset _ hsent) fun _ => hsent
  · exact hs

theorem effect (h : MachineClosed I) {s t : State} (he : Effect s t) (hs : I s) : I t := by
  cases he with
  | unchanged => exact hs
  | sensorIdle l => exact h.sensorIdle l hs
  | sensorOpen l => exact h.links s _ hs
  | sensorWord l w => exact h.links s _ hs
  | sensorClose l => exact h.links s _ hs
  | sensorLoss l cause => exact h.sensorLoss l cause hs
  | grantCopy => exact h.grants s hs
  | endCopy => exact h.endCopy hs
  | deadline p => exact h.deadlineExpires (h.timing s _ (.inl rfl) hs)
  | pace p => exact h.paceExpires p (h.timing s _ (.inl rfl) hs)
  | syncLevel b => exact h.timing s _ (.inl rfl) hs
  | syncTick b => exact h.tick (h.timing s _ (.inl rfl) hs)
  | endPass => exact h.endPass hs
  | grantBurst => exact h.grantBurst hs
  | endBurst first errors => exact h.endBurst first errors hs
  | ringReceive c => exact h.ringReceive c hs
  | freshMark => exact h.sendFreshMark hs
  | controlIdle => exact h.control s _ .idle hs
  | controlOpen => exact h.control s _ .opened hs
  | controlWord w => exact h.control s _ (.word w) hs
  | controlClose => exact h.control s _ .close hs
  | controlLoss => exact h.control s _ .lose hs
  | arrival r => exact h.control s _ (.arrival r) hs
  | messageSent => exact h.finishMessage hs
  | tickPasses => exact h.tickPasses hs

/-! ### Requests -/

theorem stopRecorder (h : QuietClosed I) {s : State} (hs : I s) : I s.stopRecorder := by
  unfold State.stopRecorder
  split
  · exact iteInduction (motive := I) (fun _ => h.cutRecord hs) fun _ => hs
  · exact hs

theorem copyRefused (h : QuietClosed I) {s : State} (hs : I s) : I s.copyRefused := by
  unfold State.copyRefused
  split
  · exact h.returnOutcome _ _ hs
  · exact hs

theorem stopFilter (h : CycleClosed I) {s : State} (hs : I s.passless) : I s.stopFilter :=
  iteInduction (motive := I) (fun _ => h.applyAt .stop (.inl rfl) hs) fun _ => hs

/-- The entry to STOPPED: up to the buffers' freeing the property is asked of the loop as found. -/
theorem enterStopped (h : MachineClosed I) {s : State} (hs : I s) : I s.enterStopped := by
  have hfound := h.toQuietClosed.passless.drained.inLoop s.lsv.loop
  have hbegun : I (((s.updLsv fun v => { v with loop := .stopped, stopInProgress := true }).inLoop
      s.lsv.loop).drained.passless) :=
    h.supervisor s.drained.passless (fun v => { v with loop := s.lsv.loop, stopInProgress := true })
      ⟨id, rfl, rfl, rfl, rfl, rfl⟩ (h.cutsOff _ (h.drains s hs))
  have hcut := copyRefused hfound (stopRecorder hfound (hfound.setJob (.engine s.lsv.loop) hbegun))
  have hstopped : ((((s.updLsv fun v => { v with loop := .stopped, stopInProgress := true }).setJob
      (.engine s.lsv.loop)).stopRecorder).copyRefused).lsv.loop = .stopped := by
    rw [State.copyRefused_lsv, State.stopRecorder_lsv]
    rfl
  have hfreed := h.stops _ _ hstopped hcut
  rw [State.assemblyStopped, ← State.stopAssembly_eq] at hfreed
  have habandoned := h.toLettingClosed.passless.abandon hfreed
  exact h.reportIdle (h.ring _ _ (h.makeSwap none (stopFilter h.toCycleClosed habandoned)))

theorem transfer (h : QuietClosed I) {s : State} (bursts : List Burst) (kind : TransferKind)
    (hs : I s) : I (s.transfer bursts kind) := h.presentHost (h.setJob _ hs)

theorem clearAll (h : MachineClosed I) {s : State} (hrun : s.running = false) (hs : I s) : I s.clearAll := by
  have hcleared := h.memory _ (fun m => { m with corrected := 0, uncorrectable := 0 }) (h.links _
    (mapTable (fun _ x => { x with counts := .zero }) s.links) (h.clears s hrun hs))
  exact h.filter _ (fun f => { f with active := mapTable (fun _ r => { r with saturations := 0 }) f.active })
    .clearSaturations hcleared

theorem applyTiming (h : CycleClosed I) {s : State} (x : TimingSettings) (hs : I s) : I (s.applyTiming x) := by
  have hset : I (s.updCtu (·.setTiming x)) := by
    refine h.timing s _ (.inl ?_) hs
    unfold Ctu.setTiming Ctu.switchPace
    split
    · split <;> rfl
    · rfl
  exact iteInduction (motive := I) (fun _ => h.offer (h.attachOnIdle hset)) fun _ => hset

theorem writing_cutRecord (s : State) : s.cutRecord.tmr.writing = none := by
  unfold State.cutRecord State.freeIfReleased
  split
  · dsimp only
    split <;> rfl
  · assumption

theorem carriedOut (h : MachineClosed I) {s t : State} (hc : CarriedOut s t) (hs : I s) : I t := by
  cases hc with
  | answered r ws => exact h.complete r ws hs
  | cleared hrun => exact h.complete _ _ (h.clearAll hrun hs)
  | masked mask => exact h.complete _ _ (h.control s _ (.mask mask) hs)
  | resetInHand => exact h.setJob _ (h.control s _ .resetInHand hs)
  | sensorSet l e => exact h.complete _ _ (h.links s _ hs)
  | recordsRead l n clear ws => exact h.complete _ _ (h.links s _ hs)
  | timingSet x => exact h.complete _ _ (applyTiming h.toCycleClosed x hs)
  | sliceSet x => exact h.complete _ _ (h.ring s _ hs)
  | stopped => exact h.enterStopped hs
  | loopSet target hne =>
    exact h.complete _ _ (h.supervisor s _ ⟨fun hstopped => absurd hstopped hne, rfl, rfl, rfl, rfl, rfl⟩ hs)
  | tripSet m n => exact h.complete _ _ (h.supervisor s _ ⟨id, rfl, rfl, rfl, rfl, rfl⟩ hs)
  | entryWritten k g base len _ _ => exact h.complete _ _ (h.memory s _ hs)
  | entryRemoved k g _ => exact h.complete _ _ (h.memory s _ hs)
  | shiftSet k n => exact h.complete _ _ (h.memory s _ hs)
  | transferring bursts kind => exact transfer h.toQuietClosed bursts kind hs
  | swapped k => exact h.complete _ _ (h.memory s _ hs)
  | swapPending k r => exact h.complete _ _ (h.memory s _ hs)
  | actuatorsWritten first ps hps => exact h.complete _ _ (h.filter s _ (.shadow first ps hps) hs)
  | pairsWritten first n ps => exact h.complete _ _ (h.filter s _ (.shadowPairs _) hs)
  | applied hrun => exact h.complete _ _ (h.filter s _ (.apply (.inr hrun)) hs)
  | applyPending => exact h.complete _ _ (h.filter s _ (.flags _ _ _) hs)
  | applyCancelled => exact h.complete _ _ (h.filter s _ (.flags _ _ _) hs)
  | presetWaits first values => exact h.setJob _ hs
  | preset first values => exact h.complete _ _ (h.filter s _ (.preset _ _) hs)
  | joining => exact h.complete _ _ (h.ring s _ hs)
  | left => exact h.complete _ _ (h.leftRing hs)
  | leaving => exact h.complete _ _ (h.ring s _ hs)
  | leaveRequested => exact h.complete _ _ (h.ring s _ hs)
  | transmitSet b => exact h.complete _ _ (h.ring s _ hs)
  | configured c _ _ =>
    exact h.complete _ _ (h.recorder _ _ (.configures c (writing_cutRecord s)) (h.cutRecord hs))
  | storeEnabled g ws hg =>
    exact h.complete _ _ (h.recorder _ _ (.enables g (writing_cutRecord s) hg) (h.cutRecord hs))
  | storeDisabled => exact h.complete _ _ (h.recorderQuiet ⟨rfl, rfl, rfl, rfl⟩ hs)
  | recordReading c g slot start n =>
    exact transfer h.toQuietClosed _ _ (h.recorderQuiet ⟨rfl, rfl, rfl, rfl⟩ hs)
  | released n ws => exact h.complete _ _ (h.recorder s _ (.drops n) hs)

/-! ### Steps -/

theorem stepClosed (h : MachineClosed I) : StepClosed I where
  queue s _ := h.outside s _ _ _ _ _
  effect _ _ := h.effect
  start s r rest hrequests hmay hs := by
    simp only [State.mayStart, Bool.and_eq_true, Option.isNone_iff_eq_none, Bool.not_eq_true',
      decide_eq_true_eq] at hmay
    obtain ⟨⟨hexec, -⟩, hroom⟩ := hmay
    exact h.control s _ (.start r rest hrequests hexec hroom) hs
  carriedOut _ _ := h.carriedOut
  transmit s hs := h.control s _ .choose hs
  hardReset := h.hardReset
  leaveReset s hs := iteInduction (motive := I) (fun _ => h.outside s _ _ _ _ _ hs) fun _ => hs

/-- What each change of the machine keeps, every step keeps. -/
theorem step (h : MachineClosed I) {s t : State} (hs : I s) (hst : Machine.step s = .next t) : I t :=
  h.stepClosed.step hs hst

end MachineClosed

end Sys2Proof.Machine
end

section
/-! PROOF. Every step keeps the control link's queues within their sizes (R167 to R172): one rule for each
thing that can happen to the control link port. -/

namespace Sys2Proof.Machine

namespace Clp.Bounded

variable {c : Clp}

theorem raise (h : c.Bounded) (p : NoticePayload) :
    (if inMask c.mask p.kind then { c with notices := addNotice p c.notices } else c).Bounded := by
  split
  · rename_i hp
    obtain ⟨hrequests, hreplies, hone, hnone, hnodup, hmask, hbuffer⟩ := h
    refine ⟨hrequests, hreplies, hone, hnone, ?_, ?_, hbuffer⟩
    · rw [addNotice_kinds]
      split
      · exact hnodup
      · rename_i hnew
        rw [List.nodup_append]
        exact ⟨hnodup, List.pairwise_singleton _ _, fun a ha b hb hab => hnew (List.mem_singleton.mp hb ▸ hab ▸ ha)⟩
    · intro n hn
      have hkind : n.payload.kind ∈ (addNotice p c.notices).map fun n => n.payload.kind := List.mem_map_of_mem hn
      rw [addNotice_kinds] at hkind
      have hcases : n.payload.kind ∈ (c.notices.map fun n => n.payload.kind) ∨ n.payload.kind = p.kind := by
        split at hkind
        · exact .inl hkind
        · exact (List.mem_append.mp hkind).imp_right List.mem_singleton.mp
      obtain hold | hnew := hcases
      · obtain ⟨m, hm, hkinds⟩ := List.mem_map.mp hold
        exact hkinds ▸ hmask m hm
      · exact hnew ▸ hp
  · exact h

/-- A reply filled leaves no pending entry where the request in execution was there to be answered. -/
theorem answer (h : c.Bounded) (r : Result) (ws : List Word) : (c.answer r ws).Bounded := by
  obtain ⟨hrequests, hreplies, hone, hnone, hnodup, hmask, hbuffer⟩ := h
  unfold Clp.answer
  split
  · refine ⟨hrequests, ?_, ?_, fun _ => pending_not_mem_map_fillPending _ _, hnodup, hmask, hbuffer⟩
    · rw [List.length_map]
      exact hreplies
    · rw [List.count_eq_zero.mpr (pending_not_mem_map_fillPending _ _)]
      exact Nat.zero_le _
  · exact ⟨hrequests, hreplies, hone, hnone, hnodup, hmask, hbuffer⟩

/-- No pending entry is left once the request in execution has been answered. -/
theorem pending_not_mem_answer (h : c.Bounded) (r : Result) (ws : List Word) :
    ReplyEntry.pending ∉ (c.answer r ws).replies := by
  obtain ⟨-, -, -, hnone, -⟩ := h
  unfold Clp.answer
  split
  · exact pending_not_mem_map_fillPending _ _
  · exact hnone ‹_›

theorem complete (h : c.Bounded) (r : Result) (ws : List Word) :
    ({ c.answer r ws with inExec := none } : Clp).Bounded := by
  have hpending := h.pending_not_mem_answer r ws
  obtain ⟨hrequests, hreplies, hone, -, hnodup, hmask, hbuffer⟩ := h.answer r ws
  exact ⟨hrequests, hreplies, hone, fun _ => hpending, hnodup, hmask, hbuffer⟩

theorem setJob (h : c.Bounded) (j : Job) :
    ({ c with inExec := c.inExec.map fun e => { e with job := j } } : Clp).Bounded := by
  obtain ⟨hrequests, hreplies, hone, hnone, hnodup, hmask, hbuffer⟩ := h
  exact ⟨hrequests, hreplies, hone, fun hmap => hnone (Option.map_eq_none_iff.mp hmap), hnodup, hmask, hbuffer⟩

theorem start (h : c.Bounded) {r : Request} {rest : List Request} (hr : c.requests = r :: rest)
    (hexec : c.inExec = none) (hroom : c.replies.length < 16) :
    ({ c with requests := rest, inExec := some ⟨r, .now⟩, replies := c.replies ++ [.pending] } : Clp).Bounded := by
  obtain ⟨hrequests, -, -, hnone, hnodup, hmask, hbuffer⟩ := h
  refine ⟨?_, ?_, ?_, fun hx => (nomatch hx), hnodup, hmask, hbuffer⟩
  · rw [hr, List.length_cons] at hrequests
    exact Nat.le_of_succ_le hrequests
  · rw [List.length_append, List.length_singleton]
    exact hroom
  · rw [List.count_append, List.count_eq_zero.mpr (hnone hexec)]
    exact Nat.le_refl 1

/-- The transmit arbiter takes a reply or a notice away. -/
theorem choose (h : c.Bounded) : (if c.sending.isNone then c.chooseNext else c).Bounded := by
  split
  · obtain ⟨hrequests, hreplies, hone, hnone, hnodup, hmask, hbuffer⟩ := h
    unfold Clp.chooseNext
    split
    · rename_i _ _ r rest hq
      rw [hq] at hreplies hone hnone
      refine ⟨hrequests, Nat.le_of_succ_le hreplies, ?_, fun hx hmem => hnone hx (List.mem_cons_of_mem _ hmem),
        hnodup, hmask, hbuffer⟩
      rwa [List.count_cons_of_ne (show ReplyEntry.ready r ≠ .pending from fun hne => nomatch hne)] at hone
    · rename_i _ _ n ns hn _
      rw [hn] at hnodup hmask
      exact ⟨hrequests, hreplies, hone, hnone, (List.nodup_cons.mp hnodup).2,
        fun m hm => hmask m (List.mem_cons_of_mem _ hm), hbuffer⟩
    · exact ⟨hrequests, hreplies, hone, hnone, hnodup, hmask, hbuffer⟩
  · exact h

theorem setMask (h : c.Bounded) (m : BitVec 9) :
    ({ c with mask := m, notices := c.notices.filter fun n => inMask m n.payload.kind } : Clp).Bounded := by
  obtain ⟨hrequests, hreplies, hone, hnone, hnodup, -, hbuffer⟩ := h
  exact ⟨hrequests, hreplies, hone, hnone, hnodup.sublist (List.filter_sublist.map _),
    fun n hn => (List.mem_filter.mp hn).2, hbuffer⟩

/-- What has words of another message in its buffer, and else the same queues. -/
theorem of_sameQueues (h : c.Bounded) {d : Clp} (hbuffer : d.buffer.length ≤ 2053)
    (hd : d = { c with
      receiver := d.receiver, line := d.line, buffer := d.buffer, sending := d.sending,
      resetInHand := d.resetInHand, receiveErrors := d.receiveErrors, syncLosses := d.syncLosses,
      queueFull := d.queueFull, dropped := d.dropped, lastReset := d.lastReset, resetPoint := d.resetPoint }) :
    d.Bounded := by
  obtain ⟨hrequests, hreplies, hone, hnone, hnodup, hmask, -⟩ := h
  rw [hd]
  exact ⟨hrequests, hreplies, hone, hnone, hnodup, hmask, hbuffer⟩

theorem takeRequest (h : c.Bounded) (r : Request) : (c.takeRequest r).Bounded := by
  obtain ⟨hrequests, hreplies, hone, hnone, hnodup, hmask, hbuffer⟩ := h
  unfold Clp.takeRequest
  split
  · refine ⟨?_, hreplies, hone, hnone, hnodup, hmask, hbuffer⟩
    rw [List.length_append, List.length_singleton]
    assumption
  · split
    · refine ⟨hrequests, ?_, ?_, fun hx hmem => ?_, hnodup, hmask, hbuffer⟩
      · rw [List.length_append, List.length_singleton]
        assumption
      · rw [List.count_append]
        exact hone
      · obtain hmem | hmem := List.mem_append.mp hmem
        · exact hnone hx hmem
        · exact absurd (List.mem_singleton.mp hmem) (fun hne => nomatch hne)
    · exact ⟨hrequests, hreplies, hone, hnone, hnodup, hmask, hbuffer⟩

theorem takeClose (h : c.Bounded) : c.takeClose.Bounded := by
  have hempty : ({ c with receiver := .sync, buffer := [] } : Clp).Bounded :=
    h.of_sameQueues (Nat.zero_le _) rfl
  obtain ⟨-, -, -, -, -, -, hbuffer⟩ := id h
  unfold Clp.takeClose
  split
  · dsimp only
    split
    · exact hempty.takeRequest _
    · exact h.of_sameQueues (Nat.zero_le _) rfl
  · exact h.of_sameQueues hbuffer rfl
  · exact h
  · exact h

theorem takeOpen (h : c.Bounded) : c.takeOpen.Bounded := by
  unfold Clp.takeOpen
  split
  · exact h.of_sameQueues (Nat.zero_le _) rfl
  · exact h.of_sameQueues (Nat.zero_le _) rfl
  · exact h
  · exact h

theorem takeWord (h : c.Bounded) (w : Word) : (c.takeWord w).Bounded := by
  obtain ⟨-, -, -, -, -, -, hbuffer⟩ := id h
  unfold Clp.takeWord
  split
  · refine h.of_sameQueues ?_ rfl
    dsimp only
    split
    · rw [List.length_append, List.length_singleton]
      assumption
    · exact hbuffer
  · exact h.of_sameQueues hbuffer rfl
  · exact h
  · exact h

theorem loseLine (h : c.Bounded) : c.loseLine.Bounded := by
  unfold Clp.loseLine
  split
  · exact h.of_sameQueues (Nat.zero_le _) rfl
  · exact h.of_sameQueues (Nat.zero_le _) rfl
  · exact h
  · exact h

theorem move (h : c.Bounded) {d : Clp} (hm : ControlMove c d) : d.Bounded := by
  obtain ⟨-, -, -, -, -, -, hbuffer⟩ := id h
  cases hm with
  | raise p => exact h.raise p
  | complete r ws => exact h.complete r ws
  | setJob j => exact h.setJob j
  | start r rest hr hexec hroom => exact h.start hr hexec hroom
  | choose => exact h.choose
  | mask m => exact h.setMask m
  | resetInHand =>
    obtain ⟨-, -, -, -, -, -, hanswered⟩ := h.answer .ok []
    exact (h.answer .ok []).of_sameQueues hanswered rfl
  | idle =>
    unfold Clp.takeIdle
    split
    · exact h.of_sameQueues hbuffer rfl
    · exact h
  | opened => exact h.takeOpen
  | word w => exact h.takeWord w
  | close => exact h.takeClose
  | lose => exact h.loseLine
  | arrival r => exact h.takeRequest r
  | sent => exact h.of_sameQueues hbuffer rfl

theorem softReset (h : c.Bounded) (t : Time) : (c.softReset t).Bounded := by
  obtain ⟨-, -, -, -, -, -, hbuffer⟩ := h
  exact ⟨Nat.zero_le _, Nat.zero_le _, Nat.zero_le _, fun _ => List.not_mem_nil, List.nodup_nil,
    List.forall_mem_nil _, hbuffer⟩

end Clp.Bounded

theorem queuesBounded_cycleClosed : CycleClosed fun s => s.clp.Bounded where
  outside _ _ _ _ _ _ hs := hs
  links _ _ hs := hs
  ring _ _ hs := hs
  memory _ _ hs := hs
  control _ _ hf hs := hs.move hf
  recorder _ _ _ hs := hs
  supervisor _ _ _ hs := hs
  timing _ _ _ hs := hs
  assembly _ _ _ _ hs := hs
  contents _ _ _ _ hs := hs
  engine _ _ _ _ hs := hs
  retires _ _ _ _ hs := hs
  frees _ _ _ _ hs := hs
  drains _ hs := hs
  rests _ hs _ := hs
  lets _ _ _ hs := hs
  releases _ _ hs := hs
  filter _ _ _ hs := hs
  targets _ _ _ _ hs := hs
  attaches _ _ _ _ hs := hs
  works _ _ _ _ _ _ hs := hs
  offers _ _ _ _ _ hs := hs
  closes _ _ _ _ hs := hs
  skipsMissing _ _ _ _ _ _ _ hs := hs
  skipsMemory _ _ _ _ _ hs := hs
  completes _ _ _ _ _ hs := hs

theorem queuesBounded_closed : MachineClosed fun s => s.clp.Bounded where
  toCycleClosed := queuesBounded_cycleClosed
  grants _ hs := queuesBounded_cycleClosed.grantCopy_of_opens (fun _ _ _ _ _ hs => hs) hs
  cutsOff _ hs := hs
  stops _ _ _ hs := hs
  clears _ _ hs := hs
  softReset _ hs := hs.softReset _
  hardReset _ := ⟨Nat.zero_le _, Nat.zero_le _, Nat.zero_le _, fun _ => List.not_mem_nil, List.nodup_nil,
    List.forall_mem_nil _, Nat.zero_le _⟩

/-- Settles O57: each thing that can happen to the control link port keeps its queues within their sizes. -/
theorem controlQueuesStayBounded : Obligations.ControlQueuesStayBounded :=
  fun _ _ hs hst => queuesBounded_closed.step hs hst

end Sys2Proof.Machine
end

section
/-! PROOF. Every step keeps the unread list in a run of consecutive slots, the record in writing in the next one
(R155): a record begins only where there is room, one that is overwritten frees the slot that comes next, and
one that joins moves the next slot on. -/

namespace Sys2Proof.Machine

/-- The slots that a store of `capacity` slots holds: those of the unread list, the next one, and that of a
record in writing. -/
def SlotsRunIn (capacity : Nat) (unread : List UnreadRecord) (next : Nat) (writing : Option Nat) : Prop :=
  next < capacity ∧
    (∀ (i : Nat) (r : UnreadRecord), unread[i]? = some r →
      r.slot < capacity ∧ (r.slot + (unread.length - i)) % capacity = next) ∧
    (∀ k, writing = some k → k = next) ∧ unread.length + (if writing = none then 0 else 1) ≤ capacity

theorem Tmr.slotsRun_iff_of_some {t : Tmr} {g : Geometry} (h : t.geometry = some g) :
    t.SlotsRun ↔ SlotsRunIn g.capacity t.unread t.nextSlot (t.writing.map Writing.slot) := by
  unfold Tmr.SlotsRun SlotsRunIn
  rw [h]
  cases hw : t.writing <;> simp

theorem Tmr.slotsRun_iff_of_none {t : Tmr} (h : t.geometry = none) :
    t.SlotsRun ↔ t.unread = [] ∧ t.writing = none := by
  unfold Tmr.SlotsRun
  rw [h]

theorem Tmr.SlotsRun.of_some {t : Tmr} {g : Geometry} (hg : t.geometry = some g)
    (h : SlotsRunIn g.capacity t.unread t.nextSlot (t.writing.map Writing.slot)) : t.SlotsRun :=
  (Tmr.slotsRun_iff_of_some hg).mpr h

theorem Tmr.SlotsRun.of_none {t : Tmr} (hg : t.geometry = none) (hunread : t.unread = [])
    (hwriting : t.writing = none) : t.SlotsRun := (Tmr.slotsRun_iff_of_none hg).mpr ⟨hunread, hwriting⟩

namespace SlotsRunIn

variable {n : Nat} {unread : List UnreadRecord} {next : Nat}

theorem begins (h : SlotsRunIn n unread next none) (hroom : unread.length < n) :
    SlotsRunIn n unread next (some next) := by
  obtain ⟨hnext, hrun, -, -⟩ := h
  exact ⟨hnext, hrun, fun k hk => (Option.some.inj hk).symm, hroom⟩

theorem cut {w : Option Nat} (h : SlotsRunIn n unread next w) : SlotsRunIn n unread next none := by
  obtain ⟨hnext, hrun, -, hroom⟩ := h
  exact ⟨hnext, hrun, fun _ hk => (nomatch hk), Nat.le_trans (Nat.le_add_right _ _) hroom⟩

/-- The oldest record of a full store stands in the next slot. -/
theorem oldest_slot {r : UnreadRecord} {rest : List UnreadRecord} (h : SlotsRunIn n (r :: rest) next none)
    (hfull : n ≤ (r :: rest).length) : r.slot = next := by
  obtain ⟨-, hrun, -, hroom⟩ := h
  obtain ⟨hslot, hnext⟩ := hrun 0 r rfl
  have hlen : (r :: rest).length = n := by simp only [↓reduceIte] at hroom; omega
  rwa [hlen, Nat.sub_zero, Nat.add_mod_right, Nat.mod_eq_of_lt hslot] at hnext

theorem drop {w : Option Nat} (h : SlotsRunIn n unread next w) (m : Nat) :
    SlotsRunIn n (unread.drop m) next w := by
  obtain ⟨hnext, hrun, hw, hroom⟩ := h
  refine ⟨hnext, fun i r hi => ?_, hw, ?_⟩
  · rw [List.getElem?_drop] at hi
    have hat := hrun (m + i) r hi
    rwa [List.length_drop, Nat.sub_sub]
  · rw [List.length_drop]
    omega

theorem overwrites {r : UnreadRecord} {rest : List UnreadRecord} (h : SlotsRunIn n (r :: rest) next none)
    (hfull : n ≤ (r :: rest).length) : SlotsRunIn n rest r.slot (some r.slot) := by
  have hslot := h.oldest_slot hfull
  obtain ⟨-, -, -, hroom⟩ := id h
  obtain ⟨hnext, hrun, -, -⟩ := h.drop 1
  rw [hslot]
  exact ⟨hnext, hrun, fun k hk => (Option.some.inj hk).symm, hroom⟩

theorem joins (h : SlotsRunIn n unread next (some next)) (r : UnreadRecord) (hr : r.slot = next) :
    SlotsRunIn n (unread ++ [r]) (if next + 1 < n then next + 1 else 0) none := by
  obtain ⟨hnext, hrun, -, hroom⟩ := h
  have hwrap : (if next + 1 < n then next + 1 else 0) = (next + 1) % n := by
    split
    · rw [Nat.mod_eq_of_lt ‹_›]
    · rw [show next + 1 = n by omega, Nat.mod_self]
  rw [hwrap]
  refine ⟨Nat.mod_lt _ (by omega), fun i q hi => ?_, fun k hk => (nomatch hk), ?_⟩
  · rw [List.length_append, List.length_singleton]
    by_cases hlt : i < unread.length
    · rw [List.getElem?_append_left hlt] at hi
      obtain ⟨hslot, hat⟩ := hrun i q hi
      refine ⟨hslot, ?_⟩
      rw [show q.slot + (unread.length + 1 - i) = q.slot + (unread.length - i) + 1 by omega, Nat.add_mod, hat,
        Nat.add_mod_mod]
    · rw [List.getElem?_append_right (Nat.not_lt.mp hlt)] at hi
      have hi0 : i - unread.length = 0 := by
        refine Decidable.byContradiction fun hne => ?_
        rw [List.getElem?_eq_none (by rw [List.length_singleton]; omega)] at hi
        cases hi
      rw [hi0] at hi
      obtain rfl : r = q := Option.some.inj hi
      refine ⟨hr ▸ hnext, ?_⟩
      rw [show unread.length + 1 - i = 1 by omega, hr]
  · rw [List.length_append, List.length_singleton]
    simp only [↓reduceIte, reduceCtorEq] at hroom ⊢
    omega

end SlotsRunIn

theorem Tmr.SlotsRun.move {t t' : Tmr} (h : t.SlotsRun) (hm : RecorderMove t t') : t'.SlotsRun := by
  cases hm with
  | quiet hsame =>
    obtain ⟨hgeometry, hunread, hnext, hwriting⟩ := hsame
    cases hg : t.geometry with
    | none =>
      rw [Tmr.slotsRun_iff_of_none hg] at h
      rw [Tmr.slotsRun_iff_of_none (hgeometry.trans hg), hunread]
      refine ⟨h.1, ?_⟩
      rwa [h.2, Option.map_none, Option.map_eq_none_iff] at hwriting
    | some g =>
      rw [Tmr.slotsRun_iff_of_some hg] at h
      rwa [Tmr.slotsRun_iff_of_some (hgeometry.trans hg), hunread, hnext, hwriting]
  | begins g w hg hfree hroom hslot =>
    rw [Tmr.slotsRun_iff_of_some hg, hfree] at h
    refine .of_some hg ?_
    rw [Option.map_some, hslot]
    exact h.begins hroom
  | overwrites g w oldest rest hg hfree hfull hunread hslot =>
    rw [Tmr.slotsRun_iff_of_some hg, hfree, hunread] at h
    rw [hunread] at hfull
    refine .of_some hg ?_
    rw [Option.map_some, hslot]
    exact h.overwrites hfull
  | joins g w hg hw =>
    rw [Tmr.slotsRun_iff_of_some hg, hw] at h
    obtain ⟨-, -, hslot, -⟩ := id h
    rw [Option.map_some, ← hslot w.slot rfl] at h
    exact .of_some hg (h.joins ⟨w.slot, w.tag, w.sections⟩ rfl)
  | cuts =>
    cases hg : t.geometry with
    | none => exact .of_none rfl ((Tmr.slotsRun_iff_of_none hg).mp h).1 rfl
    | some g => exact .of_some rfl ((Tmr.slotsRun_iff_of_some hg).mp h).cut
  | drops m =>
    cases hg : t.geometry with
    | none =>
      obtain ⟨hunread, hw⟩ := (Tmr.slotsRun_iff_of_none hg).mp h
      exact .of_none rfl (by rw [hunread, List.drop_nil]) hw
    | some g => exact .of_some rfl (((Tmr.slotsRun_iff_of_some hg).mp h).drop m)
  | configures c hfree => exact .of_none rfl rfl hfree
  | enables g hfree hcapacity =>
    refine .of_some rfl ?_
    rw [hfree]
    exact ⟨Nat.lt_of_lt_of_le Nat.two_pos hcapacity, fun _ _ hi => (nomatch hi), fun _ hk => (nomatch hk), Nat.zero_le _⟩

theorem slotsRun_cycleClosed : CycleClosed fun s => s.tmr.SlotsRun where
  outside _ _ _ _ _ _ hs := hs
  links _ _ hs := hs
  ring _ _ hs := hs
  memory _ _ hs := hs
  control _ _ _ hs := hs
  recorder _ _ hf hs := hs.move hf
  supervisor _ _ _ hs := hs
  timing _ _ _ hs := hs
  assembly _ _ _ _ hs := hs
  contents _ _ _ _ hs := hs
  engine _ _ _ _ hs := hs
  retires _ _ _ _ hs := hs
  frees _ _ _ _ hs := hs
  drains _ hs := hs
  rests _ hs _ := hs
  lets _ _ _ hs := hs
  releases _ _ hs := hs
  filter _ _ _ hs := hs
  targets _ _ _ _ hs := hs
  attaches _ _ _ _ hs := hs
  works _ _ _ _ _ _ hs := hs
  offers _ _ _ _ _ hs := hs
  closes _ _ _ _ hs := hs
  skipsMissing _ _ _ _ _ _ _ hs := hs
  skipsMemory _ _ _ _ _ hs := hs
  completes _ _ _ _ _ hs := hs

theorem slotsRun_closed : MachineClosed fun s => s.tmr.SlotsRun where
  toCycleClosed := slotsRun_cycleClosed
  grants _ hs := slotsRun_cycleClosed.grantCopy_of_opens (fun _ _ _ _ _ hs => hs) hs
  cutsOff _ hs := hs
  stops _ _ _ hs := hs
  clears _ _ hs := hs
  softReset _ _ := .of_none rfl rfl rfl
  hardReset _ := .of_none rfl rfl rfl

/-- Settles O50: each thing that can happen to the recorder keeps its slots in one run. -/
theorem unreadRecordsRunThroughTheSlots : Obligations.UnreadRecordsRunThroughTheSlots :=
  fun _ _ hs hst => slotsRun_closed.step hs hst

end Sys2Proof.Machine
end

section
/-! PROOF. Every step keeps at most one slope buffer OPEN, and the deadline timer running only while one is
(R27, R53, R54). Only a closure and an opening change which buffers are OPEN; a buffer opens only where none
is. -/

namespace Sys2Proof.Machine

/-- The buffer is OPEN. -/
def State.isOpen (s : State) (x : BufferId) : Prop := (s.desc x).state = .opened

/-- A property read from which buffers are OPEN and from the deadline timer, which may stop. -/
def ReadsOpenness (I : State → Prop) : Prop :=
  ∀ s t : State, (∀ y, t.isOpen y ↔ s.isOpen y) →
    (t.ctu.deadlineAt = s.ctu.deadlineAt ∨ t.ctu.deadlineAt = none) → I s → I t

theorem State.isOpen_updBuffer {s : State} {x : BufferId} {f : SlopeBuffer → SlopeBuffer}
    (hf : (f (s.buffer x)).desc.state = .opened ↔ s.isOpen x) (y : BufferId) :
    (s.updBuffer x f).isOpen y ↔ s.isOpen y := by
  by_cases hy : y = x
  · subst hy
    unfold State.isOpen State.desc
    rw [State.buffer_updBuffer_same]
    exact hf
  · unfold State.isOpen
    rw [State.desc_updBuffer_of_ne s hy]

theorem State.isOpen_updDesc {s : State} {x : BufferId} {f : Descriptor → Descriptor}
    (hf : (f (s.desc x)).state = .opened ↔ s.isOpen x) (y : BufferId) :
    (s.updDesc x f).isOpen y ↔ s.isOpen y := State.isOpen_updBuffer hf y

theorem Descriptor.letGo_state (d : Descriptor) : d.letGo.state = d.state := by
  unfold Descriptor.letGo
  split <;> rfl

/-- A buffer marked CLOSED is not OPEN, the other is as it was. -/
theorem State.isOpen_markClosed (s : State) (x : BufferId) (c : ClosureCause) (y : BufferId) :
    (s.markClosed x c).isOpen y ↔ s.isOpen y ∧ y ≠ x := by
  cases x <;> cases y <;> simp [State.isOpen, State.markClosed, State.desc, State.buffer, State.updDesc,
    State.updBuffer, State.updSau, State.updCtu, State.updCounts, State.updLsv]

namespace ReadsOpenness

variable {I : State → Prop}

/-- Such a property is kept by all of a cycle where a closure keeps it. -/
theorem cycleClosed (h : ReadsOpenness I)
    (hcloses : ∀ s x c, (s.desc x).state = .opened → I s → I (s.markClosed x c)) : CycleClosed I := by
  have hdesc : ∀ (s : State) x f, ((f (s.desc x)).state = .opened ↔ s.isOpen x) → I s → I (s.updDesc x f) :=
    fun s x f hf => h _ _ (State.isOpen_updDesc hf) (.inl rfl)
  have hlike : ∀ (s : State) x f, (f (s.desc x)).state = (s.desc x).state → I s → I (s.updDesc x f) :=
    fun s x f hf => hdesc s x f (by rw [hf]; rfl)
  have hnot : ∀ (s : State) x f, (f (s.desc x)).state ≠ .opened → (s.desc x).state ≠ .opened → I s →
      I (s.updDesc x f) := fun s x f hf hx => hdesc s x f ⟨fun ht => absurd ht hf, fun hs => absurd hs hx⟩
  have hsame : ∀ s t : State, t.sau.bufA = s.sau.bufA → t.sau.bufB = s.sau.bufB →
      (t.ctu.deadlineAt = s.ctu.deadlineAt ∨ t.ctu.deadlineAt = none) → I s → I t := by
    intro s t ha hb ht
    refine h s t (fun y => ?_) ht
    unfold State.isOpen State.desc
    cases y with
    | a => rw [State.buffer, ha]; rfl
    | b => rw [State.buffer, hb]; rfl
  have hskipped : ∀ (s : State) x c n, I s → I (s.skipped x c n) := fun s x c n hs =>
    hsame (s.updDesc x fun d => { d with outcome := some .skipped, skip := some c }) _ rfl rfl (.inl rfl)
      (hlike s x _ rfl hs)
  exact {
    outside := fun s _ _ _ _ _ => hsame s _ rfl rfl (.inl rfl)
    links := fun s _ => hsame s _ rfl rfl (.inl rfl)
    ring := fun s _ => hsame s _ rfl rfl (.inl rfl)
    memory := fun s _ => hsame s _ rfl rfl (.inl rfl)
    control := fun s _ _ => hsame s _ rfl rfl (.inl rfl)
    recorder := fun s _ _ => hsame s _ rfl rfl (.inl rfl)
    supervisor := fun s _ _ => hsame s _ rfl rfl (.inl rfl)
    timing := fun s _ hf => hsame s _ rfl rfl hf
    assembly := fun s _ ha hb => hsame s _ ha hb (.inl rfl)
    contents := fun s x f hf => h _ _ (State.isOpen_updBuffer (by rw [hf.1]; rfl)) (.inl rfl)
    engine := fun s _ _ _ => hsame s _ rfl rfl (.inl rfl)
    retires := fun s x hx _ => hnot s x _ (fun hf => nomatch hf) (by simp [hx])
    frees := fun s x hx _ => hnot s x _ (fun hf => nomatch hf) (by simp [hx])
    drains := fun s => hsame s _ rfl rfl (.inl rfl)
    rests := fun s hs _ => hsame s.drained s rfl rfl (.inl rfl) hs
    lets := fun s x _ => hlike s x _ (Descriptor.letGo_state _)
    releases := fun s _ => hsame s _ rfl rfl (.inl rfl)
    filter := fun s _ _ => hsame s _ rfl rfl (.inl rfl)
    targets := fun s _ _ _ => hsame s _ rfl rfl (.inl rfl)
    attaches := fun s x _ _ => hlike s x _ rfl
    works := fun s _ _ _ _ _ => hsame s _ rfl rfl (.inl rfl)
    offers := fun s x _ _ _ hs => hlike _ x _ (Descriptor.letGo_state _)
      (hsame s ((s.passStarted x).updRce Rce.released) rfl rfl (.inl rfl) hs)
    closes := hcloses
    skipsMissing := fun s x c n hopen _ _ hs => hskipped _ x _ n (hcloses s x c hopen hs)
    skipsMemory := fun s x n _ _ hs => hskipped _ x _ n (hsame s s.drained rfl rfl (.inl rfl) hs)
    completes := fun s p n m _ hs => hlike _ p.buffer _ rfl (hsame s _ rfl rfl (.inl rfl) hs) }

end ReadsOpenness

/-- A buffer that is not OPEN stays so while no buffer opens. -/
theorem notOpen_cycleClosed (y : BufferId) : CycleClosed fun s => ¬s.isOpen y :=
  ReadsOpenness.cycleClosed (fun _ _ hopen _ hs ht => hs ((hopen y).mp ht))
    fun s x c _ hs ht => hs ((s.isOpen_markClosed x c y).mp ht).1

theorem State.oneOpen_iff (s : State) :
    s.OneOpen ↔ ¬(s.isOpen .a ∧ s.isOpen .b) ∧ (s.ctu.deadlineAt ≠ none → s.isOpen .a ∨ s.isOpen .b) := Iff.rfl

theorem oneOpen_readsOpenness : ReadsOpenness State.OneOpen := by
  intro s t hopen ht hs
  rw [State.oneOpen_iff] at hs ⊢
  rw [hopen, hopen]
  refine ⟨hs.1, fun hrunning => hs.2 ?_⟩
  obtain ht | ht := ht
  · exact ht ▸ hrunning
  · exact absurd ht hrunning

theorem State.OneOpen.markClosed {s : State} (hs : s.OneOpen) (x : BufferId) (c : ClosureCause) :
    (s.markClosed x c).OneOpen := by
  rw [State.oneOpen_iff] at hs ⊢
  rw [State.isOpen_markClosed, State.isOpen_markClosed]
  exact ⟨fun hboth => hs.1 ⟨hboth.1.1, hboth.2.1⟩, fun hrunning => absurd rfl hrunning⟩

theorem oneOpen_cycleClosed : CycleClosed State.OneOpen :=
  oneOpen_readsOpenness.cycleClosed fun _ x c _ hs => hs.markClosed x c

/-! ### Openings (R35 to R38) -/

theorem State.isOpen_opened (s : State) (x : BufferId) (tag : Word) (y : BufferId) :
    (s.opened x tag).isOpen y ↔ s.isOpen y ∨ y = x := by
  cases x <;> cases y <;> simp [State.isOpen, State.opened, State.desc, State.buffer, State.updDesc,
    State.updBuffer, State.updSau, State.updCtu, State.updCounts, State.updLsv]

/-- A buffer opens where none is OPEN. -/
theorem State.OneOpen.opened {s : State} (hnone : ∀ y, ¬s.isOpen y) (x : BufferId) (tag : Word) :
    (s.opened x tag).OneOpen := by
  rw [State.oneOpen_iff, State.isOpen_opened, State.isOpen_opened]
  constructor
  · rintro ⟨ha | rfl, hb | hb⟩
    · exact hnone _ ha
    · exact hnone _ ha
    · exact hnone _ hb
    · cases hb
  · intro _
    cases x
    · exact .inl (.inr rfl)
    · exact .inr (.inr rfl)

theorem State.not_isOpen_of_openBuffer {s : State} (h : s.openBuffer = none) (y : BufferId) : ¬s.isOpen y := by
  unfold State.openBuffer at h
  split at h
  · cases h
  · split at h
    · cases h
    · cases y <;> assumption

/-- When the OPEN buffer has closed, none is OPEN. -/
theorem State.OneOpen.not_isOpen_closeBuffer {s : State} (hs : s.OneOpen) {x : BufferId} (hx : s.isOpen x)
    (c : ClosureCause) (y : BufferId) : ¬(s.closeBuffer x c).isOpen y := by
  by_cases hy : y = x
  · subst hy
    have hclosed : ¬(s.markClosed y c).isOpen y := fun hopen => ((s.isOpen_markClosed y c y).mp hopen).2 rfl
    have hskipped : ∀ n, ¬((s.markClosed y c).skipped y .missing n).isOpen y := fun n hopen =>
      hclosed ((State.isOpen_updDesc (s := s.markClosed y c)
        (f := fun d => { d with outcome := some .skipped, skip := some .missing }) Iff.rfl y).mp hopen)
    exact (notOpen_cycleClosed y).closeBuffer_of_marked hclosed 
      fun _ => ⟨fun _ => hskipped (satSucc s.lsv.skips), fun _ => hskipped (satSucc s.lsv.skips)⟩
  · refine (notOpen_cycleClosed y).closeBuffer c hx fun hopen => hs.1 ?_
    cases x <;> cases y
    · exact absurd rfl hy
    · exact ⟨hx, hopen⟩
    · exact ⟨hopen, hx⟩
    · exact absurd rfl hy

/-! ### The statement -/

theorem State.OneOpen.of_not_open {s : State} (ha : ¬s.isOpen .a) (ht : s.ctu.deadlineAt = none) : s.OneOpen := by
  rw [State.oneOpen_iff]
  exact ⟨fun h => ha h.1, fun h => absurd ht h⟩

theorem oneOpen_closed : MachineClosed State.OneOpen where
  toCycleClosed := oneOpen_cycleClosed
  grants _ hs := oneOpen_cycleClosed.grantCopy
    (fun _ x tag hnone _ _ _ => .opened (State.not_isOpen_of_openBuffer hnone) x tag)
    (fun _ x _ tag hy _ hs _ _ =>
      .opened (hs.not_isOpen_closeBuffer (State.state_of_openBuffer hy) .overtaken) x tag) hs
  cutsOff _ hs := hs
  stops _ _ _ _ := .of_not_open (fun h => nomatch h) rfl
  clears _ _ hs := hs
  softReset s _ := .of_not_open (fun h => nomatch h) (by
    show (s.ctu.softReset).deadlineAt = none
    unfold Ctu.softReset
    split <;> rfl)
  hardReset _ := .of_not_open (fun h => nomatch h) rfl

/-- Settles O17: only a closure and an opening change which buffers are OPEN. -/
theorem atMostOneBufferStaysOpen : Obligations.AtMostOneBufferStaysOpen :=
  fun _ _ hs hst => oneOpen_closed.step hs hst

end Sys2Proof.Machine
end

section
/-! PROOF. Every step keeps every accumulator within its limits (R100). Every value written is clamped, or was
within the limits before: a CLOSED pass clamps the enabled actuators again after its pairs, and a pair moves
no disabled one (R110 to R112). -/

namespace Sys2Proof.Machine

/-! ### Clamping -/

theorem clampInt_within {lo hi : Int} (h : lo ≤ hi) (x : Int) : lo ≤ clampInt lo hi x ∧ clampInt lo hi x ≤ hi := by
  unfold clampInt
  split
  · exact ⟨Int.le_refl _, h⟩
  · split <;> omega

theorem ActuatorParams.clamp_within {p : ActuatorParams} (h : p.low ≤ p.high) (x : Int) : p.Within (p.clamp x) :=
  clampInt_within h x

theorem ActuatorParams.Within.ordered {p : ActuatorParams} {x : Int} (h : p.Within x) : p.low ≤ p.high :=
  Int.le_trans h.1 h.2

/-! ### Pairs (R111) -/

theorem pairMove_fst_of_disabled {h l d : Int} {e : Bool} : (pairMove false e h l d).1 = h := by
  unfold pairMove
  cases e <;> (split <;> rfl)

theorem pairMove_snd_of_disabled {h l d : Int} {e : Bool} : (pairMove e false h l d).2 = l := by
  unfold pairMove
  cases e <;> (split <;> rfl)

/-! ### The lines of a pass -/

/-- The limits of the line are in order, and where its actuator is disabled its value lies within them. -/
def PassLine.Sound (l : PassLine) : Prop :=
  l.params.low ≤ l.params.high ∧ (l.params.enabled = false → l.params.Within l.value)

theorem PassLine.Sound.update {l : PassLine} (h : l.Sound) (r : Int) : (l.update r).Sound := by
  unfold PassLine.update
  split
  · rename_i henabled
    exact ⟨h.1, fun hdisabled => by simp [PassLine.clampTo, henabled] at hdisabled⟩
  · exact h

/-- After the re-clamp every line is within its limits. -/
theorem PassLine.Sound.reclamp {l : PassLine} (h : l.Sound) : l.reclamp.params.Within l.reclamp.value := by
  unfold PassLine.reclamp
  split
  · exact ActuatorParams.clamp_within h.1 _
  · exact h.2 (by simpa using ‹¬l.params.enabled = true›)

theorem PassLine.params_update (l : PassLine) (r : Int) : (l.update r).params = l.params := by
  unfold PassLine.update
  split <;> rfl

theorem PassLine.params_reclamp (l : PassLine) : l.reclamp.params = l.params := by
  unfold PassLine.reclamp
  split <;> rfl

/-- A pair that is taken leaves the lines as they are, or gives its two members new values; a disabled member
keeps its own (R111). -/
theorem takePair_cases (acc : List PassLine × Nat) (p : ActuatorPair) :
    takePair acc p = acc ∨ ∃ f g v w, acc.1[p.first]? = some f ∧ acc.1[p.second]? = some g ∧
      takePair acc p =
        ((acc.1.set p.first { f with value := v }).set p.second { g with value := w }, acc.2 + 1) ∧
      (f.params.enabled = false → v = f.value) ∧ (g.params.enabled = false → w = g.value) := by
  unfold takePair
  split
  · rename_i f g hf hg
    by_cases hlt : f.value < g.value
    · simp only [hlt, decide_true, ↓reduceIte]
      split
      · exact .inl rfl
      · exact .inr ⟨f, g, _, _, hf, hg, rfl, fun hdisabled => by rw [hdisabled, pairMove_snd_of_disabled],
          fun hdisabled => by rw [hdisabled, pairMove_fst_of_disabled]⟩
    · simp only [hlt, decide_false, Bool.false_eq_true, ↓reduceIte]
      split
      · exact .inl rfl
      · exact .inr ⟨f, g, _, _, hf, hg, rfl, fun hdisabled => by rw [hdisabled, pairMove_fst_of_disabled],
          fun hdisabled => by rw [hdisabled, pairMove_snd_of_disabled]⟩
  · exact .inl rfl

/-- A line whose value changes only where its actuator is enabled stays sound. -/
theorem PassLine.Sound.setValue {l : PassLine} (h : l.Sound) {v : Int}
    (hv : l.params.enabled = false → v = l.value) : ({ l with value := v } : PassLine).Sound :=
  ⟨h.1, fun hdisabled => by rw [hv hdisabled]; exact h.2 hdisabled⟩

/-- All lines of a pass are sound. -/
def SoundLines (ls : List PassLine) : Prop := ∀ l ∈ ls, l.Sound

theorem SoundLines.takePair {acc : List PassLine × Nat} (h : SoundLines acc.1) (p : ActuatorPair) :
    SoundLines (takePair acc p).1 := by
  obtain hsame | ⟨f, g, v, w, hf, hg, hset, hv, hw⟩ := takePair_cases acc p
  · rwa [hsame]
  · rw [hset]
    intro l hl
    obtain hl | rfl := List.mem_or_eq_of_mem_set hl
    · obtain hl | rfl := List.mem_or_eq_of_mem_set hl
      · exact h l hl
      · exact (h f (List.mem_of_getElem? hf)).setValue hv
    · exact (h g (List.mem_of_getElem? hg)).setValue hw

/-- Two lists of lines with the same parameters in the same places. -/
def SameParams (ls ms : List PassLine) : Prop :=
  ∀ i : Nat, (ls[i]?).map PassLine.params = (ms[i]?).map PassLine.params

theorem SameParams.trans {ls ms ns : List PassLine} (h : SameParams ls ms) (k : SameParams ms ns) :
    SameParams ls ns := fun i => (h i).trans (k i)

theorem sameParams_set {ls : List PassLine} {k : Nat} {l : PassLine} {x : PassLine}
    (hk : (ls[k]?).map PassLine.params = some l.params) (hx : x.params = l.params) :
    SameParams (ls.set k x) ls := by
  intro i
  rw [List.getElem?_set]
  split
  · rename_i hik
    subst hik
    rw [hk]
    split
    · rw [Option.map_some, hx]
    · rename_i hlen
      rw [List.getElem?_eq_none (Nat.not_lt.mp hlen)] at hk
      cases hk
  · rfl

theorem sameParams_takePair (acc : List PassLine × Nat) (p : ActuatorPair) :
    SameParams (takePair acc p).1 acc.1 := by
  obtain hsame | ⟨f, g, v, w, hf, hg, hset, -, -⟩ := takePair_cases acc p
  · exact fun i => by rw [hsame]
  · rw [hset]
    have hfirst : SameParams (acc.1.set p.first { f with value := v }) acc.1 :=
      sameParams_set (l := f) (by rw [hf]; rfl) rfl
    refine (sameParams_set (l := g) (x := { g with value := w }) ?_ rfl).trans hfirst
    rw [hfirst, hg]
    rfl

theorem foldl_takePair (pairs : List ActuatorPair) {acc : List PassLine × Nat} (h : SoundLines acc.1) :
    SoundLines (pairs.foldl takePair acc).1 ∧ SameParams (pairs.foldl takePair acc).1 acc.1 := by
  induction pairs generalizing acc with
  | nil => exact ⟨h, fun _ => rfl⟩
  | cons p pairs ih =>
    obtain ⟨hsound, hsame⟩ := ih (h.takePair p)
    exact ⟨hsound, hsame.trans (sameParams_takePair acc p)⟩

/-! ### The values of a pass -/

/-- The values lie within the limits of the active records in the same places. -/
def Tfu.ValuesWithin (t : Tfu) (values : List Int) : Prop :=
  ∀ (i : Nat) (v : Int) (r : ActiveRecord), values[i]? = some v → t.active.toList[i]? = some r → r.params.Within v

/-- The lines lie within the limits of the active records in the same places. -/
def Tfu.LinesWithin (t : Tfu) (ls : List PassLine) : Prop :=
  ∀ (i : Nat) (l : PassLine) (r : ActiveRecord), ls[i]? = some l → t.active.toList[i]? = some r →
    r.params.Within l.value

theorem getElem?_passLines {active : List ActiveRecord} {values : List Int} {i : Nat} {l : PassLine}
    (h : (passLines active values)[i]? = some l) :
    ∃ r v, active[i]? = some r ∧ values[i]? = some v ∧ l = ⟨r.params, v, false⟩ := by
  unfold passLines at h
  rw [List.getElem?_zipWith_eq_some] at h
  obtain ⟨r, v, hr, hv, rfl⟩ := h
  exact ⟨r, v, hr, hv, rfl⟩

/-- A CLOSED pass over sound lines ends within the limits its lines began under. -/
theorem closedPass_within {ls : List PassLine} (h : SoundLines ls) (residuals : List Int)
    (pairs : List ActuatorPair) {i : Nat} {l : PassLine} (hl : (closedPass ls residuals pairs).1[i]? = some l) :
    l.params.Within l.value ∧ ∃ m, ls[i]? = some m ∧ m.params = l.params := by
  have hupdated : SoundLines (List.zipWith PassLine.update ls residuals) := by
    intro x hx
    obtain ⟨k, hk, hx⟩ := List.mem_iff_getElem.mp hx
    rw [List.getElem_zipWith] at hx
    exact hx ▸ (h _ (List.getElem_mem _)).update _
  obtain ⟨hpaired, hsame⟩ := foldl_takePair pairs (acc := (List.zipWith PassLine.update ls residuals, 0)) hupdated
  unfold closedPass at hl
  dsimp only at hl
  rw [List.getElem?_map, Option.map_eq_some_iff] at hl
  obtain ⟨m, hm, rfl⟩ := hl
  refine ⟨(hpaired m (List.mem_of_getElem? hm)).reclamp, ?_⟩
  have hparams := hsame i
  rw [hm, Option.map_some, eq_comm, Option.map_eq_some_iff] at hparams
  obtain ⟨u, hu, hum⟩ := hparams
  rw [List.getElem?_zipWith_eq_some] at hu
  obtain ⟨x, r, hx, -, rfl⟩ := hu
  exact ⟨x, hx, by rw [PassLine.params_reclamp, ← hum, PassLine.params_update]⟩

theorem Tfu.linesWithin_passResult {t : Tfu} {p : FilterPass} (hp : t.ValuesWithin p.values) :
    t.LinesWithin (t.passResult p).1 := by
  have hlines : ∀ (i : Nat) (l : PassLine) (r : ActiveRecord),
      (passLines t.active.toList p.values)[i]? = some l → t.active.toList[i]? = some r →
        l.params = r.params ∧ r.params.Within l.value := by
    intro i l r hl hr
    obtain ⟨r', v, hr', hv, rfl⟩ := getElem?_passLines hl
    obtain rfl : r = r' := Option.some.inj (hr.symm.trans hr')
    exact ⟨rfl, hp i v r hv hr⟩
  intro i l r hl hr
  unfold Tfu.passResult at hl
  dsimp only at hl
  split at hl
  · have hsound : SoundLines (passLines t.active.toList p.values) := by
      intro x hx
      obtain ⟨k, hk, hx⟩ := List.mem_iff_getElem.mp hx
      have hget := List.getElem?_eq_some_iff.mpr ⟨hk, hx⟩
      obtain ⟨r', v, hr', hv, rfl⟩ := getElem?_passLines hget
      have hwithin := hp k v r' hv hr'
      exact ⟨hwithin.ordered, fun _ => hwithin⟩
    obtain ⟨hwithin, m, hm, hparams⟩ := closedPass_within hsound _ _ hl
    rwa [← hparams, (hlines i m r hm hr).1] at hwithin
  · exact (hlines i l r hl hr).2

/-! ### The active records -/

/-- Every accumulator lies within its limits. -/
def Tfu.AccsWithin (t : Tfu) : Prop := ∀ r : ActiveRecord, r ∈ t.active.toList → r.params.Within r.acc

/-- The limits of every shadow record are in order. -/
def Tfu.ShadowOrdered (t : Tfu) : Prop := ∀ p : ActuatorParams, p ∈ t.shadow.toList → p.low ≤ p.high

theorem State.withinLimits_iff (s : State) :
    s.WithinLimits ↔ s.tfu.AccsWithin ∧ s.tfu.ShadowOrdered ∧
      (∀ p, s.tfu.pass = some p → s.running = true ∧ s.tfu.ValuesWithin p.values) ∧
      (s.running = true ∨ s.rce.state = .idle ∨ s.rce.state = .draining) := Iff.rfl

/-- The table of active records after a change of each. -/
theorem Tfu.accsWithin_mapTable {t : Tfu} {f : Nat → ActiveRecord → ActiveRecord}
    (hf : ∀ (i : Nat) (r : ActiveRecord), t.active.toList[i]? = some r → (f i r).params.Within (f i r).acc) :
    ({ t with active := mapTable f t.active } : Tfu).AccsWithin := by
  intro r hr
  rw [mapTable_toList] at hr
  obtain ⟨i, hi, rfl⟩ := List.mem_mapIdx.mp hr
  exact hf i _ (List.getElem?_eq_getElem hi)

/-- A change of the records that keeps their parameters keeps the values of a pass within their limits. -/
theorem Tfu.ValuesWithin.mapTable {t : Tfu} {values : List Int} (h : t.ValuesWithin values)
    {f : Nat → ActiveRecord → ActiveRecord} (hf : ∀ i r, (f i r).params = r.params) :
    ({ t with active := Machine.mapTable f t.active } : Tfu).ValuesWithin values := by
  intro i v r hv hr
  rw [mapTable_toList, List.getElem?_mapIdx, Option.map_eq_some_iff] at hr
  obtain ⟨q, hq, rfl⟩ := hr
  rw [hf]
  exact h i v q hv hq

theorem mem_of_mem_writeFrom {n : Nat} {α : Type} {v : Vector α n} {first : Nat} {xs : List α} {x : α}
    (h : x ∈ (writeFrom v first xs).toList) : x ∈ v.toList ∨ x ∈ xs := by
  unfold writeFrom at h
  rw [mapTable_toList] at h
  obtain ⟨i, hi, rfl⟩ := List.mem_mapIdx.mp h
  split
  · cases hx : xs[i - first]? with
    | none => exact .inl (List.getElem_mem hi)
    | some x => exact .inr (List.mem_of_getElem? hx)
  · exact .inl (List.getElem_mem hi)

theorem entryAt_mem_or {n : Nat} {α : Type} (v : Vector α n) (i : Nat) (d : α) :
    entryAt v i d ∈ v.toList ∨ entryAt v i d = d := by
  unfold entryAt
  cases hx : v.toList[i]? with
  | none => exact .inr rfl
  | some x => exact .inl (List.mem_of_getElem? hx)

/-! ### Each move of the filter -/

namespace State.WithinLimits

variable {s : State}

theorem filter (h : s.WithinLimits) {f : Tfu → Tfu} (hf : FilterMove s (f s.tfu)) :
    (s.updTfu f).WithinLimits := by
  rw [State.withinLimits_iff] at h ⊢
  obtain ⟨haccs, hshadow, hpass, hrun⟩ := h
  rw [State.updTfu_tfu]
  generalize f s.tfu = t at hf
  have hold : ∀ (i : Nat) (r : ActiveRecord), s.tfu.active.toList[i]? = some r → r.params.Within r.acc :=
    fun i r hr => haccs r (List.mem_of_getElem? hr)
  cases hf with
  | flags pending due tag => exact ⟨haccs, hshadow, hpass, hrun⟩
  | apply hnone =>
    refine ⟨Tfu.accsWithin_mapTable fun i r hr => ?_, hshadow, fun p hp => ?_, hrun⟩
    · refine ActuatorParams.clamp_within ?_ _
      obtain hmem | heq := entryAt_mem_or s.tfu.shadow i r.params
      · exact hshadow _ hmem
      · rw [heq]
        exact (hold i r hr).ordered
    · obtain hnone | hstopped := hnone
      · exact absurd (hnone.symm.trans hp) (fun h => nomatch h)
      · rw [(hpass p hp).1] at hstopped
        cases hstopped
  | shadow first ps hps =>
    refine ⟨haccs, fun p hp => ?_, hpass, hrun⟩
    obtain hmem | hmem := mem_of_mem_writeFrom hp
    · exact hshadow p hmem
    · have := hps p hmem
      unfold ActuatorParams.low ActuatorParams.high
      omega
  | shadowPairs l => exact ⟨haccs, hshadow, hpass, hrun⟩
  | preset first values =>
    refine ⟨Tfu.accsWithin_mapTable fun i r hr => ?_, hshadow,
      fun p hp => ⟨(hpass p hp).1, (hpass p hp).2.mapTable fun i r => ?_⟩, hrun⟩
    · unfold presetRecord
      split
      · split
        · exact ActuatorParams.clamp_within (hold i r hr).ordered _
        · exact hold i r hr
      · exact hold i r hr
    · unfold presetRecord
      split
      · split <;> rfl
      · rfl
  | clearSaturations =>
    exact ⟨Tfu.accsWithin_mapTable hold, hshadow,
      fun p hp => ⟨(hpass p hp).1, (hpass p hp).2.mapTable fun _ _ => rfl⟩, hrun⟩
  | writeBack p hp =>
    have hlines := Tfu.linesWithin_passResult (hpass p hp).2
    refine ⟨Tfu.accsWithin_mapTable fun i r hr => ?_, hshadow,
      fun q hq => ⟨(hpass q hq).1, (hpass q hq).2.mapTable fun i r => ?_⟩, hrun⟩
    · unfold endRecord
      split
      · exact hlines i _ r ‹_› hr
      · exact hold i r hr
    · unfold endRecord
      split <;> rfl

/-- What leaves the filter and the loop running or not as they were, with an engine that may be at work only
while the loop runs. -/
theorem congr (h : s.WithinLimits) {t : State} (htfu : t.tfu = s.tfu)
    (hrunning : s.running = true → t.running = true)
    (hengine : t.running = true ∨ t.rce.state = .idle ∨ t.rce.state = .draining) : t.WithinLimits := by
  rw [State.withinLimits_iff] at h ⊢
  obtain ⟨haccs, hshadow, hpass, -⟩ := h
  rw [htfu]
  exact ⟨haccs, hshadow, fun p hp => ⟨hrunning (hpass p hp).1, (hpass p hp).2⟩, hengine⟩

/-- The same with the same engine. -/
theorem of_sameEngine (h : s.WithinLimits) {t : State} (htfu : t.tfu = s.tfu)
    (hrunning : s.running = true → t.running = true) (hrce : t.rce.state = s.rce.state) : t.WithinLimits :=
  h.congr htfu hrunning (by
    obtain ⟨-, -, -, hengine⟩ := h
    rw [hrce]
    exact hengine.imp_left hrunning)

theorem running_of_atWork (h : s.WithinLimits) (hidle : s.rce.state ≠ .idle) (hdraining : s.rce.state ≠ .draining) :
    s.running = true := by
  obtain ⟨-, -, -, hengine⟩ := h
  obtain hrun | hi | hd := hengine
  · exact hrun
  · exact absurd hi hidle
  · exact absurd hd hdraining

/-- The pass that starts takes the accumulators as they stand. -/
theorem valuesWithin_passOffered (h : s.WithinLimits) (x : BufferId) :
    s.tfu.ValuesWithin (s.passOffered x).values := by
  intro i v r hv hr
  obtain ⟨haccs, -⟩ := h
  unfold State.passOffered at hv
  rw [List.getElem?_map, List.getElem?_take] at hv
  split at hv
  · rw [hr] at hv
    obtain rfl : r.acc = v := Option.some.inj hv
    exact haccs r (List.mem_of_getElem? hr)
  · cases hv

theorem passless (h : s.WithinLimits) : s.passless.WithinLimits := by
  rw [State.withinLimits_iff] at h ⊢
  obtain ⟨haccs, hshadow, -, hengine⟩ := h
  exact ⟨haccs, hshadow, fun p hp => (nomatch hp), hengine⟩

end State.WithinLimits

theorem withinLimits_cycleClosed : CycleClosed State.WithinLimits where
  outside _ _ _ _ _ _ hs := hs
  links _ _ hs := hs
  ring _ _ hs := hs
  memory _ _ hs := hs
  control _ _ _ hs := hs
  recorder _ _ _ hs := hs
  supervisor s f hf hs := hs.of_sameEngine rfl (CycleClosed.loopRuns.supervisor s f hf) rfl
  timing _ _ _ hs := hs
  assembly _ _ _ _ hs := hs
  contents _ _ _ _ hs := hs
  engine _ _ hstate _ hs := hs.of_sameEngine rfl id hstate
  retires _ _ _ _ hs := hs
  frees _ _ _ _ hs := hs
  drains _ hs := hs.congr rfl id (.inr (.inr rfl))
  rests s hs hstate := State.WithinLimits.congr (s := s.drained) hs rfl id (.inr hstate)
  lets _ _ _ hs := hs
  releases _ _ hs := hs.congr rfl id (.inr (.inl rfl))
  filter _ _ hf hs := hs.filter hf
  targets _ _ _ hidle hs := hs.congr rfl id (.inr (.inl hidle))
  attaches _ _ _ _ hs := hs
  works s x f hw _ _ hs := by
    refine hs.congr rfl id (.inl ?_)
    obtain ⟨-, hwaiting | hbusy | ⟨-, hrun, -⟩⟩ := hw
    · exact hs.running_of_atWork (by simp [hwaiting]) (by simp [hwaiting])
    · exact hs.running_of_atWork (by simp [hbusy]) (by simp [hbusy])
    · exact hrun
  offers s x hstate _ _ hs := by
    have hrun := hs.running_of_atWork (by simp [hstate]) (by simp [hstate])
    have hvalues := hs.valuesWithin_passOffered x
    rw [State.withinLimits_iff] at hs ⊢
    obtain ⟨haccs, hshadow, -, -⟩ := hs
    refine ⟨haccs, hshadow, fun p hp => ?_, .inl hrun⟩
    obtain rfl : s.passOffered x = p := Option.some.inj hp
    exact ⟨hrun, hvalues⟩
  closes _ _ _ _ hs := hs.of_sameEngine rfl id rfl
  skipsMissing _ _ _ _ _ _ _ hs := hs.of_sameEngine rfl id rfl
  skipsMemory _ _ _ _ _ hs := hs.congr rfl id (.inr (.inr rfl))
  completes _ _ _ _ _ hs := hs.passless.of_sameEngine rfl id rfl

theorem withinLimits_closed : MachineClosed State.WithinLimits where
  toCycleClosed := withinLimits_cycleClosed
  grants _ hs := withinLimits_cycleClosed.grantCopy_of_opens
    (fun s _ _ _ _ hs => State.WithinLimits.of_sameEngine (s := s) hs rfl id rfl) hs
  cutsOff _ hs := hs.passless
  stops s l _ hs := by
    obtain ⟨haccs, hshadow, -, -⟩ := hs
    exact ⟨haccs, hshadow, fun p hp => (nomatch hp), .inr (.inr rfl)⟩
  clears _ _ hs := hs.of_sameEngine rfl id rfl
  softReset s hs := by
    have hordered : ∀ r ∈ s.tfu.active.toList, r.params.low ≤ r.params.high := fun r hr => (hs.1 r hr).ordered
    obtain ⟨-, hshadow, -, -⟩ := hs
    refine ⟨Tfu.accsWithin_mapTable fun i r hr => ?_, hshadow, fun p hp => (nomatch hp), .inr ?_⟩
    · exact ActuatorParams.clamp_within (hordered r (List.mem_of_getElem? hr)) 0
    · show (s.rce.softReset s.enginePort).state = .idle ∨ (s.rce.softReset s.enginePort).state = .draining
      unfold Rce.softReset
      split
      · exact .inr rfl
      · exact .inl rfl
  hardReset s := by
    have hactive : ∀ r ∈ (Vector.replicate 1024 ActiveRecord.reset).toList, r.params.Within r.acc := by
      intro r hr
      rw [Vector.toList_replicate] at hr
      rw [List.eq_of_mem_replicate hr]
      exact ⟨by decide, by decide⟩
    have hshadow : ∀ p ∈ (Vector.replicate 1024 ActuatorParams.reset).toList, p.low ≤ p.high := by
      intro p hp
      rw [Vector.toList_replicate] at hp
      rw [List.eq_of_mem_replicate hp]
      decide
    exact ⟨hactive, hshadow, fun p hp => (nomatch hp), .inr (.inl rfl)⟩

/-- Settles O29: every value written to an accumulator is clamped to its limits or was within them. -/
theorem accumulatorsStayWithinLimits : Obligations.AccumulatorsStayWithinLimits :=
  fun _ _ hs hst => withinLimits_closed.step hs hst

end Sys2Proof.Machine
end

section
/-! PROOF. Every step keeps the account of cycles (R132): an opening, an outcome and an abandonment each move
both sides of the equation by one, and with what keeps it so the buffer concerned did or did not owe its
outcome before. -/

namespace Sys2Proof.Machine

/-! ### What a buffer owes -/

/-- What one buffer adds to the count of those that owe an outcome. -/
def Descriptor.owed (d : Descriptor) : Nat := if d.owesOutcome then 1 else 0

theorem Descriptor.owed_of_owes {d : Descriptor} (h : d.owesOutcome = true) : d.owed = 1 := if_pos h

theorem Descriptor.owed_of_outcome {d : Descriptor} (h : d.outcome ≠ none) : d.owed = 0 :=
  if_neg fun howes => h ((d.owesOutcome_iff.mp howes).2)

theorem Descriptor.owed_of_free {d : Descriptor} (h : d.state = .free) : d.owed = 0 :=
  if_neg fun howes => (d.owesOutcome_iff.mp howes).1 h

theorem Descriptor.owed_congr {d d' : Descriptor} (hstate : d'.state = .free ↔ d.state = .free)
    (hout : d'.outcome = d.outcome) : d'.owed = d.owed := by
  unfold Descriptor.owed
  simp only [Descriptor.owesOutcome_iff, hstate, hout, ne_eq]

theorem State.owing_eq (s : State) (x : BufferId) : s.owing = (s.desc x).owed + (s.desc x.other).owed := by
  cases x
  · rfl
  · exact Nat.add_comm _ _

theorem BufferId.eq_or_eq_other (x y : BufferId) : y = x ∨ y = x.other := by
  cases x <;> cases y
  · exact .inl rfl
  · exact .inr rfl
  · exact .inr rfl
  · exact .inl rfl

theorem BufferId.other_ne (x : BufferId) : x.other ≠ x := by
  cases x <;> exact fun h => nomatch h

theorem Descriptor.letGo_outcome (d : Descriptor) : d.letGo.outcome = d.outcome := by
  unfold Descriptor.letGo
  split <;> rfl

theorem Descriptor.letGo_relation_of_done {d : Descriptor} (h : d.relation = .done) : d.letGo.relation = .done := by
  unfold Descriptor.letGo
  rw [if_neg (by simp [h])]
  exact h

/-- No move of the filter starts or ends a pass. -/
theorem FilterMove.pass_eq {s : State} {t : Tfu} (h : FilterMove s t) : t.pass = s.tfu.pass := by
  cases h <;> rfl

/-! ### The buffers after an outcome -/

theorem State.desc_skipped_same (s : State) (x : BufferId) (c : SkipCause) (n : Word) :
    (s.skipped x c n).desc x = { s.desc x with outcome := some .skipped, skip := some c } := by
  cases x <;> rfl

theorem State.desc_skipped_of_ne (s : State) {x y : BufferId} (hy : y ≠ x) (c : SkipCause) (n : Word) :
    (s.skipped x c n).desc y = s.desc y := by
  unfold State.skipped
  rw [State.desc_updLsv, State.desc_updDesc_of_ne _ hy]

theorem State.desc_completed_same (s : State) (x : BufferId) (n m : Nat) :
    (s.completed x n m).desc x = { s.desc x with outcome := some .completed } := by
  cases x <;> rfl

theorem State.desc_completed_of_ne (s : State) {x y : BufferId} (hy : y ≠ x) (n m : Nat) :
    (s.completed x n m).desc y = s.desc y :=
  State.desc_updDesc_of_ne (s.updLsv _) hy _

/-! ### The two sides of the equation -/

/-- The cycles that have had an outcome or were abandoned. -/
def CycleCounts.settled (c : CycleCounts) : Count :=
  c.completed + c.skippedMissing + c.skippedMemory + c.abandoned

theorem State.balanced_iff (s : State) :
    s.Balanced ↔ s.lsv.counts.opened = s.lsv.counts.settled + BitVec.ofNat 32 s.owing := Iff.rfl

theorem Lsv.Keeps.settled {v v' : Lsv} (h : v.Keeps v') : v'.counts.settled = v.counts.settled := by
  obtain ⟨-, -, hcompleted, hmissing, hmemory, habandoned⟩ := h
  unfold CycleCounts.settled
  rw [hcompleted, hmissing, hmemory, habandoned]

/-- A buffer that owed its outcome has it, and it is counted. -/
theorem State.Balanced.outcomeGiven {s t : State} (h : s.Balanced) {x : BufferId}
    (hx : (s.desc x).owesOutcome = true) (hout : (t.desc x).outcome ≠ none)
    (hother : (t.desc x.other).owed = (s.desc x.other).owed)
    (hopened : t.lsv.counts.opened = s.lsv.counts.opened)
    (hsettled : t.lsv.counts.settled = s.lsv.counts.settled + 1) : t.Balanced := by
  rw [State.balanced_iff, State.owing_eq _ x] at h ⊢
  rw [Descriptor.owed_of_owes hx] at h
  rw [Descriptor.owed_of_outcome hout, hother, hopened, hsettled, h, Nat.zero_add, BitVec.ofNat_add,
    ← BitVec.add_assoc]
  rfl

theorem countSkip_settled (cause : SkipCause) (c : CycleCounts) :
    (countSkip cause c).settled = c.settled + 1 := by
  cases cause <;> (unfold countSkip CycleCounts.settled; dsimp only; ac_rfl)

theorem countCompleted_settled (c : CycleCounts) (n m : Count) :
    { c with completed := c.completed + 1, actuatorSaturations := n, pairAdjustments := m }.settled =
      c.settled + 1 := by
  unfold CycleCounts.settled
  dsimp only
  ac_rfl

theorem countSkip_opened (cause : SkipCause) (c : CycleCounts) : (countSkip cause c).opened = c.opened := by
  cases cause <;> rfl

/-! ### The account, clause by clause -/

/-- A RETIRING buffer has its outcome (R45). -/
def State.RetiringDone (s : State) : Prop := ∀ x, (s.desc x).state = .retiring → (s.desc x).outcome ≠ none

/-- An engine with a cycle is attached to a buffer that owes its outcome (R87, R92). -/
def State.EngineAttached (s : State) : Prop :=
  s.rce.state = .idle ∨ s.rce.state = .draining ∨
    ∃ x, s.rce.attached = some x ∧ (s.desc x).owesOutcome = true ∧ (s.desc x).relation = .attached ∧
      (s.rce.state = .delivering → (s.desc x).state = .closed)

/-- A running pass belongs to a CLOSED buffer that owes its outcome and the engine has let go of (R94). -/
def State.PassOwes (s : State) : Prop :=
  ∀ p, s.tfu.pass = some p → (s.desc p.buffer).state = .closed ∧ (s.desc p.buffer).outcome = none ∧
    (s.desc p.buffer).relation = .done

/-- Both buffers are FREE while the loop is STOPPED (R48). -/
def State.StoppedFree (s : State) : Prop :=
  s.running = false → (s.desc .a).state = .free ∧ (s.desc .b).state = .free

theorem State.cyclesAccounted_iff (s : State) :
    s.CyclesAccounted ↔ s.Balanced ∧ s.RetiringDone ∧ s.EngineAttached ∧ s.PassOwes ∧ s.StoppedFree := Iff.rfl

theorem State.StoppedFree.desc {s : State} (h : s.StoppedFree) (hstopped : s.running = false) (x : BufferId) :
    (s.desc x).state = .free := by
  cases x
  · exact (h hstopped).1
  · exact (h hstopped).2

theorem State.StoppedFree.running {s : State} (h : s.StoppedFree) {x : BufferId} (hx : (s.desc x).state ≠ .free) :
    s.running = true := by
  refine (Bool.eq_false_or_eq_true _).resolve_right fun hnot => ?_
  exact hx (h.desc hnot x)

theorem State.running_eq_false_iff (s : State) : s.running = false ↔ s.lsv.loop = .stopped := by
  simp [State.running]

namespace State.CyclesAccounted

variable {s t : State}

/-- The same points of both buffers' lives, the same outcomes counted, the same engine and pass. -/
theorem congr (h : s.CyclesAccounted) (hpoint : ∀ x, (s.desc x).SamePoint (t.desc x)) (hlsv : s.lsv.Keeps t.lsv)
    (hstate : t.rce.state = s.rce.state) (hattached : t.rce.attached = s.rce.attached)
    (hpass : t.tfu.pass = s.tfu.pass) : t.CyclesAccounted := by
  rw [cyclesAccounted_iff] at h ⊢
  obtain ⟨hbalanced, hretiring, hengine, hpassOwes, hstopped⟩ := h
  have howes : ∀ x, (t.desc x).owesOutcome = (s.desc x).owesOutcome := fun x => by
    obtain ⟨hst, -, hout⟩ := hpoint x
    rw [Descriptor.owesOutcome, hst, hout, Descriptor.owesOutcome]
  refine ⟨?_, fun x hx => ?_, ?_, fun p hp => ?_, fun hrun => ?_⟩
  · rw [balanced_iff] at hbalanced ⊢
    rw [hlsv.settled, hlsv.2.1, hbalanced, owing, owing, howes, howes]
  · obtain ⟨hst, -, hout⟩ := hpoint x
    rw [hout]
    exact hretiring x (hst ▸ hx)
  · unfold EngineAttached
    rw [hstate, hattached]
    refine hengine.imp_right (.imp_right ?_)
    rintro ⟨x, hx, hox, hrelation, hdelivering⟩
    obtain ⟨hst, hrel, -⟩ := hpoint x
    exact ⟨x, hx, (howes x).trans hox, hrel.trans hrelation, fun hd => hst.trans (hdelivering hd)⟩
  · obtain ⟨hst, hrel, hout⟩ := hpoint p.buffer
    rw [hst, hrel, hout]
    exact hpassOwes p (hpass ▸ hp)
  · rw [running_eq_false_iff] at hrun
    have hfree := hstopped.desc ((running_eq_false_iff s).mpr (hlsv.1 hrun))
    exact ⟨(hpoint .a).1.trans (hfree .a), (hpoint .b).1.trans (hfree .b)⟩

theorem congr_desc (h : s.CyclesAccounted) (hsau : t.sau = s.sau) (hlsv : s.lsv.Keeps t.lsv)
    (hstate : t.rce.state = s.rce.state) (hattached : t.rce.attached = s.rce.attached)
    (hpass : t.tfu.pass = s.tfu.pass) : t.CyclesAccounted :=
  h.congr (fun x => by
    have : t.desc x = s.desc x := by cases x <;> (unfold State.desc State.buffer; rw [hsau])
    rw [this]
    exact ⟨rfl, rfl, rfl⟩) hlsv hstate hattached hpass

/-- A buffer with a cycle that owes its outcome is neither FREE nor RETIRING. -/
theorem open_or_closed (h : s.CyclesAccounted) {x : BufferId} (hx : (s.desc x).owesOutcome = true) :
    (s.desc x).state = .opened ∨ (s.desc x).state = .closed := by
  obtain ⟨-, hretiring, -⟩ := h
  obtain ⟨hfree, hout⟩ := (Descriptor.owesOutcome_iff _).mp hx
  cases hst : (s.desc x).state with
  | free => exact absurd hst hfree
  | opened => exact .inl rfl
  | closed => exact .inr rfl
  | retiring => exact absurd hout (hretiring x hst)

/-- What an engine with a cycle is attached to. -/
theorem attached_owes (h : s.CyclesAccounted) {x : BufferId} (hidle : s.rce.state ≠ .idle)
    (hdraining : s.rce.state ≠ .draining) (hattached : s.rce.attached = some x) :
    (s.desc x).owesOutcome = true ∧ (s.desc x).relation = .attached ∧
      (s.rce.state = .delivering → (s.desc x).state = .closed) := by
  obtain ⟨-, -, hengine, -⟩ := h
  obtain hi | hd | ⟨y, hy, hrest⟩ := hengine
  · exact absurd hi hidle
  · exact absurd hd hdraining
  · obtain rfl : x = y := Option.some.inj (hattached.symm.trans hy)
    exact hrest

/-- A buffer whose engine relation is not ATTACHED has no engine with a cycle attached to it. -/
theorem not_attached (h : s.CyclesAccounted) {x : BufferId} (hx : (s.desc x).relation ≠ .attached) :
    s.rce.state = .idle ∨ s.rce.state = .draining ∨ s.rce.attached ≠ some x := by
  by_cases hidle : s.rce.state = .idle
  · exact .inl hidle
  by_cases hdraining : s.rce.state = .draining
  · exact .inr (.inl hdraining)
  exact .inr (.inr fun hattached => hx (h.attached_owes hidle hdraining hattached).2.1)

/-- The engine in another state, in which the clause on it holds. -/
theorem updRce (h : s.CyclesAccounted) {f : Rce → Rce} (hf : (s.updRce f).EngineAttached) :
    (s.updRce f).CyclesAccounted := by
  obtain ⟨hbalanced, hret, -, hpass, hstopped⟩ := h
  exact ⟨hbalanced, hret, hf, hpass, hstopped⟩

/-- One buffer at another point of a cycle that neither owes more nor less, with the clauses it concerns. -/
theorem updDesc (h : s.CyclesAccounted) {x : BufferId} {f : Descriptor → Descriptor}
    (howed : (f (s.desc x)).owed = (s.desc x).owed)
    (hretiring : (f (s.desc x)).state = .retiring → (f (s.desc x)).outcome ≠ none)
    (hengine : s.rce.state ≠ .idle → s.rce.state ≠ .draining → s.rce.attached = some x →
      (s.desc x).owesOutcome = true → (s.desc x).relation = .attached →
      (s.rce.state = .delivering → (s.desc x).state = .closed) →
      (f (s.desc x)).owesOutcome = true ∧ (f (s.desc x)).relation = .attached ∧
        (s.rce.state = .delivering → (f (s.desc x)).state = .closed))
    (hpass : (s.desc x).state = .closed → (s.desc x).outcome = none → (s.desc x).relation = .done →
      (f (s.desc x)).state = .closed ∧ (f (s.desc x)).outcome = none ∧ (f (s.desc x)).relation = .done)
    (hfree : (s.desc x).state = .free → (f (s.desc x)).state = .free) :
    (s.updDesc x f).CyclesAccounted := by
  rw [cyclesAccounted_iff] at h ⊢
  obtain ⟨hbalanced, hret, heng, hpassOwes, hstopped⟩ := h
  have hsame := State.desc_updDesc_same s x f
  have hother : ∀ {y}, y ≠ x → (s.updDesc x f).desc y = s.desc y := fun hy => State.desc_updDesc_of_ne s hy f
  refine ⟨?_, fun y hy => ?_, ?_, fun p hp => ?_, fun hrun => ?_⟩
  · rw [balanced_iff] at hbalanced ⊢
    rw [owing_eq _ x] at hbalanced ⊢
    rw [hsame, hother x.other_ne, howed]
    exact hbalanced
  · by_cases hyx : y = x
    · subst hyx
      rw [hsame] at hy ⊢
      exact hretiring hy
    · rw [hother hyx] at hy ⊢
      exact hret y hy
  · obtain hidle | hdraining | ⟨y, hy, hoy, hrelation, hdelivering⟩ := heng
    · exact .inl hidle
    · exact .inr (.inl hdraining)
    · by_cases hidle : s.rce.state = .idle
      · exact .inl hidle
      by_cases hdraining : s.rce.state = .draining
      · exact .inr (.inl hdraining)
      refine .inr (.inr ⟨y, hy, ?_⟩)
      by_cases hyx : y = x
      · subst hyx
        rw [hsame]
        exact hengine hidle hdraining hy hoy hrelation hdelivering
      · rw [hother hyx]
        exact ⟨hoy, hrelation, hdelivering⟩
  · obtain ⟨hst, hout, hrel⟩ := hpassOwes p hp
    by_cases hpx : p.buffer = x
    · rw [hpx] at hst hout hrel ⊢
      rw [hsame]
      exact hpass hst hout hrel
    · rw [hother hpx]
      exact ⟨hst, hout, hrel⟩
  · have hkept : ∀ y, ((s.updDesc x f).desc y).state = .free := by
      intro y
      have hy := hstopped.desc hrun y
      by_cases hyx : y = x
      · subst hyx
        rw [hsame]
        exact hfree hy
      · rw [hother hyx]
        exact hy
    exact ⟨hkept .a, hkept .b⟩

/-- The engine lets go of a buffer. -/
theorem letGo (h : s.CyclesAccounted) (x : BufferId) (hstate : s.rce.state = .idle ∨ s.rce.state = .draining) :
    (s.updDesc x Descriptor.letGo).CyclesAccounted := by
  refine h.updDesc (Descriptor.owed_congr (by rw [Descriptor.letGo_state]) (Descriptor.letGo_outcome _))
    (fun hret => ?_) (fun hidle hdraining => (hstate.elim hidle hdraining).elim)
    (fun hst hout hrel => ⟨(Descriptor.letGo_state _).trans hst, (Descriptor.letGo_outcome _).trans hout,
      Descriptor.letGo_relation_of_done hrel⟩)
    (fun hfree => (Descriptor.letGo_state _).trans hfree)
  rw [Descriptor.letGo_state] at hret
  rw [Descriptor.letGo_outcome]
  exact h.2.1 x hret

/-- A buffer is marked CLOSED. -/
theorem markClosed (h : s.CyclesAccounted) {x : BufferId} (c : ClosureCause) (hx : (s.desc x).state = .opened) :
    (s.markClosed x c).CyclesAccounted := by
  have hclosed : (s.updDesc x fun d =>
      { d with state := .closed, cause := some c, closedAt := s.ctu.timebase }).CyclesAccounted :=
    h.updDesc (Descriptor.owed_congr ⟨fun h => (nomatch h), fun h => by simp [hx] at h⟩ rfl) (fun h => nomatch h)
      (fun _ _ _ howes hrel _ => ⟨(Descriptor.owesOutcome_iff _).mpr
        ⟨fun h => (nomatch h), ((Descriptor.owesOutcome_iff _).mp howes).2⟩, hrel, fun _ => rfl⟩)
      (fun hst => by simp [hx] at hst) (fun hfree => by simp [hx] at hfree)
  exact hclosed.congr (fun y => by cases y <;> exact ⟨rfl, rfl, rfl⟩) (.countClosure _ c) rfl rfl rfl

/-- The outcome of a buffer's cycle is given and counted: the buffer owed it, no working engine is attached to
it, and no running pass belongs to it. -/
theorem outcomeGiven (h : s.CyclesAccounted) {x : BufferId} (hx : (s.desc x).owesOutcome = true)
    (hsame : (t.desc x).state = (s.desc x).state) (hout : (t.desc x).outcome ≠ none)
    (hother : t.desc x.other = s.desc x.other) (hopened : t.lsv.counts.opened = s.lsv.counts.opened)
    (hsettled : t.lsv.counts.settled = s.lsv.counts.settled + 1) (hloop : t.lsv.loop = s.lsv.loop)
    (hrce : t.rce = s.rce)
    (hengine : s.rce.state = .idle ∨ s.rce.state = .draining ∨ s.rce.attached ≠ some x)
    (hpass : ∀ p, t.tfu.pass = some p → s.tfu.pass = some p ∧ p.buffer ≠ x) : t.CyclesAccounted := by
  rw [cyclesAccounted_iff] at h ⊢
  obtain ⟨hbalanced, hret, heng, hpassOwes, hstopped⟩ := h
  have hother' : ∀ {y}, y ≠ x → t.desc y = s.desc y := fun {y} hy => by
    obtain rfl | rfl := x.eq_or_eq_other y
    · exact absurd rfl hy
    · exact hother
  refine ⟨hbalanced.outcomeGiven hx hout (by rw [hother]) hopened hsettled, fun y hy => ?_, ?_, fun p hp => ?_,
    fun hrun => ?_⟩
  · by_cases hyx : y = x
    · exact hyx ▸ hout
    · rw [hother' hyx] at hy ⊢
      exact hret y hy
  · unfold EngineAttached
    rw [hrce]
    obtain hidle | hdraining | ⟨y, hy, howes, hrelation, hdelivering⟩ := heng
    · exact .inl hidle
    · exact .inr (.inl hdraining)
    · obtain hidle | hdraining | hne := hengine
      · exact .inl hidle
      · exact .inr (.inl hdraining)
      · have hyx : y ≠ x := fun hyx => hne (hyx ▸ hy)
        rw [← hother' hyx] at howes hrelation hdelivering
        exact .inr (.inr ⟨y, hy, howes, hrelation, hdelivering⟩)
  · obtain ⟨hp, hpx⟩ := hpass p hp
    rw [hother' hpx]
    exact hpassOwes p hp
  · have hfree := hstopped.desc (by rwa [running_eq_false_iff, ← hloop, ← running_eq_false_iff]) x
    exact absurd hfree ((Descriptor.owesOutcome_iff _).mp hx).1

end State.CyclesAccounted

theorem cyclesAccounted_cycleClosed : CycleClosed State.CyclesAccounted where
  outside s _ _ _ _ _ hs := hs
  links _ _ hs := hs
  ring _ _ hs := hs
  memory _ _ hs := hs
  control _ _ _ hs := hs
  recorder _ _ _ hs := hs
  supervisor _ _ hf hs := hs.congr_desc rfl hf rfl rfl rfl
  timing _ _ _ hs := hs
  assembly s f ha hb hs := hs.congr (fun x => by
    cases x
    · rw [show (s.updSau f).desc .a = (f s.sau).bufA.desc from rfl, ha]
      exact ⟨rfl, rfl, rfl⟩
    · rw [show (s.updSau f).desc .b = (f s.sau).bufB.desc from rfl, hb]
      exact ⟨rfl, rfl, rfl⟩) (.refl _) rfl rfl rfl
  contents s x f hf hs := hs.congr (fun y => by
    by_cases hy : y = x
    · subst hy
      unfold State.desc
      rw [State.buffer_updBuffer_same]
      exact hf
    · rw [State.desc_updBuffer_of_ne _ hy]
      exact ⟨rfl, rfl, rfl⟩) (.refl _) rfl rfl rfl
  engine _ _ hstate hattached hs := hs.congr_desc rfl (.refl _) hstate hattached rfl
  retires s x hx hout hs := hs.updDesc
    (by rw [Descriptor.owed_of_outcome hout]; exact Descriptor.owed_of_outcome hout) (fun _ => hout)
    (fun _ _ _ howes _ _ => absurd ((Descriptor.owesOutcome_iff _).mp howes).2 hout)
    (fun _ hnone _ => absurd hnone hout) (fun hfree => by simp [hx] at hfree)
  frees s x hx _ hs := by
    have hout := hs.2.1 x hx
    exact hs.updDesc (by rw [Descriptor.owed_of_outcome hout]; exact Descriptor.owed_of_outcome hout)
      (fun h => nomatch h) (fun _ _ _ howes _ _ => absurd ((Descriptor.owesOutcome_iff _).mp howes).2 hout)
      (fun _ hnone _ => absurd hnone hout) (fun _ => rfl)
  drains _ hs := hs.updRce (.inr (.inl rfl))
  rests s hs hstate := by
    obtain ⟨hbalanced, hret, -, hpass, hstopped⟩ := hs
    exact ⟨hbalanced, hret, hstate.imp_right .inl, hpass, hstopped⟩
  lets _ x hdraining hs := hs.letGo x (.inr hdraining)
  releases _ _ hs := hs.updRce (.inl rfl)
  filter s f hf hs := hs.congr_desc rfl (.refl _) rfl rfl hf.pass_eq
  targets _ _ _ hidle hs := hs.updRce (.inl hidle)
  attaches s x hidle hx hs := hs.updDesc (Descriptor.owed_congr Iff.rfl rfl) (hs.2.1 x)
    (fun hnot => absurd hidle hnot) (fun _ _ hrel => by simp [hx.2] at hrel) id
  works s x f hw hattached hstate hs := by
    have hfacts : (s.desc x).owesOutcome = true ∧ (s.desc x).relation = .attached := by
      obtain ⟨hx, hwaiting | hbusy | ⟨-, -, hrel, howes⟩⟩ := hw
      · have hx := hs.attached_owes (by simp [hwaiting]) (by simp [hwaiting]) hx
        exact ⟨hx.1, hx.2.1⟩
      · have hx := hs.attached_owes (by simp [hbusy]) (by simp [hbusy]) hx
        exact ⟨hx.1, hx.2.1⟩
      · exact ⟨howes, hrel⟩
    refine hs.updRce (.inr (.inr ⟨x, hattached, hfacts.1, hfacts.2, fun hdelivering => ?_⟩))
    rw [State.updRce_rce] at hdelivering
    obtain hst | hst | ⟨-, hnot⟩ := hstate
    · simp [hst] at hdelivering
    · simp [hst] at hdelivering
    · exact (hs.open_or_closed hfacts.1).resolve_left hnot
  offers s x hstate hattached hpass hs := by
    obtain ⟨howes, hrel, hclosed⟩ := hs.attached_owes (by simp [hstate]) (by simp [hstate]) hattached
    have hgone : ((s.updRce Rce.released).updDesc x Descriptor.letGo).CyclesAccounted :=
      State.CyclesAccounted.letGo (s := s.updRce Rce.released) (hs.updRce (.inl rfl)) x (.inl rfl)
    obtain ⟨hbalanced, hret, hengine, -, hstopped⟩ := hgone
    refine ⟨hbalanced, hret, hengine, fun p hp => ?_, hstopped⟩
    obtain rfl : s.passOffered x = p := Option.some.inj hp
    rw [show (s.passOffered x).buffer = x from rfl, State.desc_updDesc_same, Descriptor.letGo_state,
      Descriptor.letGo_outcome]
    exact ⟨hclosed hstate, ((Descriptor.owesOutcome_iff _).mp howes).2,
      congrArg Descriptor.relation (if_pos hrel : Descriptor.letGo _ = _)⟩
  closes _ _ c hopen hs := hs.markClosed c hopen
  skipsMissing s x c n hopen hout hstate hs := by
    have hclosed := hs.markClosed c hopen
    have hmarked : ((s.markClosed x c).desc x).state = .closed ∧
        ((s.markClosed x c).desc x).outcome = (s.desc x).outcome := by cases x <;> exact ⟨rfl, rfl⟩
    refine hclosed.outcomeGiven (x := x) ((Descriptor.owesOutcome_iff _).mpr ⟨by simp [hmarked.1], hmarked.2.trans hout⟩)
      ?_ ?_ ?_ (countSkip_opened _ _) (countSkip_settled _ _) rfl rfl ?_ ?_
    · rw [State.desc_skipped_same]
    · rw [State.desc_skipped_same]
      exact fun h => nomatch h
    · exact State.desc_skipped_of_ne _ x.other_ne _ _
    · obtain hdraining | hrel := hstate
      · exact .inr (.inl hdraining)
      · exact hs.not_attached hrel
    · intro p hp
      refine ⟨hp, fun hpx => ?_⟩
      have hst := (hs.2.2.2.1 p hp).1
      rw [hpx, hopen] at hst
      cases hst
  skipsMemory s x n hbusy hattached hs := by
    obtain ⟨howes, hrel, -⟩ := hs.attached_owes (by simp [hbusy]) (by simp [hbusy]) hattached
    have hdrained : s.drained.CyclesAccounted := hs.updRce (.inr (.inl rfl))
    refine hdrained.outcomeGiven (x := x) howes ?_ ?_ ?_ (countSkip_opened _ _) (countSkip_settled _ _) rfl rfl
      (.inr (.inl rfl)) ?_
    · rw [State.desc_skipped_same]
    · rw [State.desc_skipped_same]
      exact fun h => nomatch h
    · exact State.desc_skipped_of_ne _ x.other_ne _ _
    · intro p hp
      refine ⟨hp, fun hpx => ?_⟩
      have hdone := (hs.2.2.2.1 p hp).2.2
      rw [hpx, hrel] at hdone
      cases hdone
  completes s p n m hp hs := by
    obtain ⟨hst, hout, hdone⟩ := hs.2.2.2.1 p hp
    refine hs.outcomeGiven (x := p.buffer) ((Descriptor.owesOutcome_iff _).mpr ⟨by simp [hst], hout⟩)
      ?_ ?_ ?_ rfl ?_ rfl rfl (hs.not_attached (by simp [hdone])) (fun q hq => nomatch hq)
    · rw [State.desc_completed_same]
      rfl
    · rw [State.desc_completed_same]
      exact fun h => nomatch h
    · exact State.desc_completed_of_ne _ p.buffer.other_ne _ _
    · exact countCompleted_settled s.lsv.counts _ _

/-! ### Stops, openings and resets -/

/-- With nothing owed and everything at rest. -/
theorem State.CyclesAccounted.of_free {s : State} (ha : (s.desc .a).state = .free) (hb : (s.desc .b).state = .free)
    (hcounts : s.lsv.counts.opened = s.lsv.counts.settled) (hengine : s.rce.state = .idle ∨ s.rce.state = .draining)
    (hpass : s.tfu.pass = none) : s.CyclesAccounted := by
  rw [State.cyclesAccounted_iff]
  refine ⟨?_, fun x hx => ?_, hengine.imp_right .inl, fun p hp => ?_, fun _ => ⟨ha, hb⟩⟩
  · rw [State.balanced_iff, State.owing_eq s .a, Descriptor.owed_of_free ha,
      Descriptor.owed_of_free (d := s.desc BufferId.a.other) hb, hcounts]
    exact (BitVec.add_zero _).symm
  · cases x
    · simp [ha] at hx
    · simp [hb] at hx
  · rw [hpass] at hp
    cases hp

/-- What the SAU abandons is what its buffers owe (R127). -/
theorem State.CyclesAccounted.abandonCount_eq {s : State} (h : s.RetiringDone) : s.abandonCount = s.owing := by
  have hd : ∀ x, (s.desc x).toAbandon = (s.desc x).owesOutcome := by
    intro x
    have hx := h x
    unfold Descriptor.toAbandon Descriptor.owesOutcome
    cases hst : (s.desc x).state
    · rfl
    · rfl
    · rfl
    · rw [beq_false_of_ne (hx hst)]
      rfl
  rw [State.abandonCount, State.owing, hd, hd]

theorem State.CyclesAccounted.opened {s : State} (h : s.CyclesAccounted) {x : BufferId} {tag : Word}
    (hx : (s.desc x).state = .free) (hrun : s.running = true) : (s.opened x tag).CyclesAccounted := by
  have hsame : ((s.opened x tag).desc x).owesOutcome = true ∧ ((s.opened x tag).desc x).state = .opened := by
    cases x <;> exact ⟨rfl, rfl⟩
  have hother : ∀ {y}, y ≠ x → (s.opened x tag).desc y = s.desc y := fun {y} hy => by
    obtain rfl := (x.eq_or_eq_other y).resolve_left hy
    cases x <;> rfl
  rw [State.cyclesAccounted_iff] at h ⊢
  obtain ⟨hbalanced, hret, heng, hpassOwes, -⟩ := h
  refine ⟨?_, fun y hy => ?_, ?_, fun p hp => ?_, fun hstopped => ?_⟩
  · rw [State.balanced_iff, State.owing_eq _ x] at hbalanced ⊢
    rw [Descriptor.owed_of_free hx, Nat.zero_add] at hbalanced
    rw [Descriptor.owed_of_owes hsame.1, hother x.other_ne, BitVec.ofNat_add]
    show s.lsv.counts.opened + 1 = s.lsv.counts.settled + _
    rw [hbalanced, BitVec.add_assoc, BitVec.add_comm _ (1 : Count)]
    rfl
  · by_cases hyx : y = x
    · subst hyx
      simp [hsame.2] at hy
    · rw [hother hyx] at hy ⊢
      exact hret y hy
  · refine heng.imp_right (.imp_right ?_)
    rintro ⟨y, hy, howes, hrest⟩
    have hyx : y ≠ x := fun hyx => ((Descriptor.owesOutcome_iff _).mp howes).1 (hyx ▸ hx)
    refine ⟨y, hy, ?_⟩
    rw [hother hyx]
    exact ⟨howes, hrest⟩
  · obtain ⟨hst, hrest⟩ := hpassOwes p hp
    have hpx : p.buffer ≠ x := fun hpx => by simp [hpx, hx] at hst
    rw [hother hpx]
    exact ⟨hst, hrest⟩
  · exact absurd (hstopped.symm.trans hrun) (fun h => nomatch h)

theorem cyclesAccounted_closed : MachineClosed State.CyclesAccounted where
  toCycleClosed := cyclesAccounted_cycleClosed
  grants _ hs := cyclesAccounted_cycleClosed.grantCopy_of_opens (fun _ _ _ hrun hx hs => hs.opened hx hrun) hs
  cutsOff s hs := by
    obtain ⟨hbalanced, hret, hengine, -, hstopped⟩ := hs
    exact ⟨hbalanced, hret, hengine, fun p hp => (nomatch hp), hstopped⟩
  stops s l _ hs := by
    obtain ⟨hbalanced, hret, -⟩ := hs
    have hcount : s.abandonCount = s.owing := State.CyclesAccounted.abandonCount_eq (s := s) hret
    refine .of_free rfl rfl ?_ (.inr rfl) rfl
    show s.lsv.counts.opened = _ + _ + _ + (s.lsv.counts.abandoned + BitVec.ofNat 32 s.abandonCount)
    rw [hcount, ← BitVec.add_assoc]
    exact hbalanced
  clears s hrun hs := by
    have hfree := State.StoppedFree.desc hs.2.2.2.2 hrun
    obtain ⟨-, hret, hengine, hpass, hstopped⟩ := hs
    refine ⟨?_, hret, hengine, hpass, hstopped⟩
    show (0 : Count) = 0 + 0 + 0 + 0 + BitVec.ofNat 32 s.owing
    rw [State.owing_eq s .a, Descriptor.owed_of_free (hfree .a), Descriptor.owed_of_free (hfree BufferId.a.other)]
    rfl
  softReset s hs := by
    refine .of_free rfl rfl rfl ?_ rfl
    show (s.rce.softReset s.enginePort).state = .idle ∨ (s.rce.softReset s.enginePort).state = .draining
    unfold Rce.softReset
    split
    · exact .inr rfl
    · exact .inl rfl
  hardReset s := .of_free rfl rfl rfl (.inl rfl) rfl

/-- Settles O60: each thing that can happen to a cycle keeps the account of cycles. -/
theorem cyclesStayAccounted : Obligations.CyclesStayAccounted :=
  fun _ _ hs hst => cyclesAccounted_closed.step hs hst

end Sys2Proof.Machine
end

section
/-! PROOF. What the codes on a sensor link do in each receiver state (R4 to R8), the checks at CLOSE (R15), and
that nothing but the link and the notice list changes. -/

namespace Sys2Proof.Machine

/-! ### The receiver's cases -/

/-- An update of a link counts only by what it makes of the link as it stands. -/
theorem State.updLink_congr {s : State} {l : Link} {f g : LinkState → LinkState}
    (h : f (s.link l) = g (s.link l)) : s.updLink l f = s.updLink l g := by
  unfold State.link at h
  unfold State.updLink
  rw [h]

/-- What CLOSE makes of a stored packet once its first failing check is known. -/
def LinkState.closeChecked (x : LinkState) (k : PacketSlot) : Option PacketFault → LinkState
  | some f => x.rejectPacket k f
  | none => x.deliver k

theorem LinkState.takeClose_eq_closeChecked {x : LinkState} {k : PacketSlot} (l : Nat)
    (hreceiver : x.receiver = .receiving) (hstoring : x.storing = some k) :
    x.takeClose l = x.closeChecked k (packetFault l x.entry x.line (x.packet k).words) := by
  unfold LinkState.takeClose
  rw [hreceiver, hstoring]
  rfl

theorem LinkState.closeChecked_ite (x : LinkState) (k : PacketSlot) {c : Prop} [Decidable c] (f : PacketFault)
    (rest : Option PacketFault) :
    x.closeChecked k (if c then some f else rest) = if c then x.rejectPacket k f else x.closeChecked k rest :=
  apply_ite (x.closeChecked k) c (some f) rest

/-- CLOSE of a stored packet: the checks of R15 in their order. -/
theorem LinkState.takeClose_of_storing {x : LinkState} {l : Nat} {k : PacketSlot}
    (hreceiver : x.receiver = .receiving) (hstoring : x.storing = some k) :
    x.takeClose l =
      if x.line.count < 5 then x.rejectPacket k .framing
      else if x.line.crcPasses = false then x.rejectPacket k .crc
      else if 261 < x.line.count ∨ x.line.count ≠ packetSlopes (x.packet k).words + 5 then x.rejectPacket k .framing
      else if packetSensor (x.packet k).words ≠ l then x.rejectPacket k .misrouted
      else if x.entry.blocks ≤ packetBlock (x.packet k).words then x.rejectPacket k .outOfWindow
      else if packetSlopes (x.packet k).words ≠ x.entry.expected (packetBlock (x.packet k).words) then
        x.rejectPacket k .lengthError
      else x.deliver k := by
  rw [LinkState.takeClose_eq_closeChecked l hreceiver hstoring, packetFault]
  iterate 6 rw [LinkState.closeChecked_ite]
  rfl

theorem LineCheck.crcPasses_eq_false_iff (x : LineCheck) : x.crcPasses = false ↔ x.prior ≠ x.latest := by
  simp [LineCheck.crcPasses]

/-! ### A packet that fails -/

theorem LinkState.rejectPacket_of_ne_crc (x : LinkState) (k : PacketSlot) {f : PacketFault} (hf : f ≠ .crc) :
    x.rejectPacket k f =
      { x.setPacket k ⟨.free, []⟩ with receiver := .sync, storing := none, counts := countFault f x.counts } := by
  cases f with
  | crc => exact absurd rfl hf
  | framing => cases k <;> rfl
  | misrouted => cases k <;> rfl
  | outOfWindow => cases k <;> rfl
  | lengthError => cases k <;> rfl

theorem LinkState.rejectPacket_crc (x : LinkState) (k : PacketSlot) :
    x.rejectPacket k .crc =
      { x.setPacket k ⟨.free, []⟩ with
        receiver := .sync, storing := none, counts := { x.counts with crc := x.counts.crc + 1 }
        current := x.current.map fun r =>
          { r with record := { r.record with crcErrors := satSucc r.record.crcErrors } } } := by
  obtain ⟨_, _, _, _, _, _, current, _, _, _, _, _⟩ := x
  cases k <;> cases current <;> rfl

/-! ### A good packet -/

/-- The link with packet `k` DELIVERED and counted, its frame record apart (R17). -/
def LinkState.delivered (x : LinkState) (k : PacketSlot) : LinkState :=
  { x.setPacket k ⟨.delivered, (x.packet k).words⟩ with
    receiver := .sync
    storing := none
    order := x.order ++ [k]
    counts := { x.counts with
      good := x.counts.good + 1
      markers := addCount x.counts.markers (markerCount (packetPayload (x.packet k).words)) } }

theorem LinkState.current_delivered (x : LinkState) (k : PacketSlot) : (x.delivered k).current = x.current := by
  cases k <;> rfl

theorem LinkState.current_closeRecord (x : LinkState) : x.closeRecord.current = none := by
  unfold LinkState.closeRecord
  split
  · split
    · unfold LinkState.offerRecord
      split <;> rfl
    · rfl
  · assumption

theorem LinkState.countInRecord_of_none {x : LinkState} (h : x.current = none) (frame : Word) :
    x.countInRecord frame = { x with current := some ⟨{ FrameRecord.fresh frame with good := 1 }, 1⟩ } := by
  unfold LinkState.countInRecord
  rw [h]

theorem LinkState.countInRecord_of_some {x : LinkState} {r : OwedRecord} (h : x.current = some r) (frame : Word) :
    x.countInRecord frame =
      { x with current := some ⟨{ r.record with good := satSucc r.record.good }, r.owed + 1⟩ } := by
  unfold LinkState.countInRecord
  rw [h]

theorem LinkState.otherFrame_of_none {x : LinkState} (h : x.current = none) (frame : Word) :
    x.otherFrame frame = false := by
  unfold LinkState.otherFrame
  rw [h]

theorem LinkState.otherFrame_of_some {x : LinkState} {r : OwedRecord} (h : x.current = some r) (frame : Word) :
    x.otherFrame frame = (r.record.frame != frame) := by
  unfold LinkState.otherFrame
  rw [h]

theorem LinkState.deliver_eq (x : LinkState) (k : PacketSlot) :
    x.deliver k =
      (if (x.delivered k).otherFrame (packetFrame (x.packet k).words) then (x.delivered k).closeRecord
        else x.delivered k).countInRecord (packetFrame (x.packet k).words) := rfl

/-- What becomes of the current record, a record of another frame being closed first (R19, R20). -/
theorem LinkState.deliver_of_current (x : LinkState) (k : PacketSlot) :
    x.deliver k =
      match x.current with
      | none => { x.delivered k with
          current := some ⟨{ FrameRecord.fresh (packetFrame (x.packet k).words) with good := 1 }, 1⟩ }
      | some r =>
        if r.record.frame = packetFrame (x.packet k).words then
          { x.delivered k with
            current := some ⟨{ r.record with good := satSucc r.record.good }, r.owed + 1⟩ }
        else { (x.delivered k).closeRecord with
          current := some ⟨{ FrameRecord.fresh (packetFrame (x.packet k).words) with good := 1 }, 1⟩ } := by
  rw [LinkState.deliver_eq]
  cases hx : x.current with
  | none =>
    have hcurrent := (x.current_delivered k).trans hx
    rw [if_neg (by simp [LinkState.otherFrame_of_none hcurrent]), LinkState.countInRecord_of_none hcurrent]
  | some r =>
    have hcurrent := (x.current_delivered k).trans hx
    rw [LinkState.otherFrame_of_some hcurrent]
    dsimp only
    by_cases hframe : r.record.frame = packetFrame (x.packet k).words
    · rw [if_neg (by simp [hframe]), if_pos hframe, LinkState.countInRecord_of_some hcurrent]
    · rw [if_pos (by simpa using hframe), if_neg hframe,
        LinkState.countInRecord_of_none (LinkState.current_closeRecord _)]

/-- A sensor event outside a hard reset that changes its link alone. -/
theorem act_updLink {s : State} (h : s.inReset = false) {l : Link} {f g : LinkState → LinkState}
    (hf : f (s.link l) = g (s.link l)) :
    act (fun s => s.updLink l f) s = .next (s.updLink l g).settle := by
  rw [act_of_not_inReset h, State.updLink_congr hf]

/-- Settles O7: the checks of R15 one after another, and the record of a good packet by the record current. -/
theorem sensorCloseChecksInOrder : Obligations.SensorCloseChecksInOrder := by
  intro l k s hreset hreceiver hstoring x ws refused delivered first z
  have hz : x.takeClose l = z := by
    rw [LinkState.takeClose_of_storing hreceiver hstoring]
    refine ite_congr rfl (fun _ => x.rejectPacket_of_ne_crc k (by decide)) fun _ =>
      ite_congr (propext x.line.crcPasses_eq_false_iff) (fun _ => x.rejectPacket_crc k) fun _ =>
      ite_congr rfl (fun _ => x.rejectPacket_of_ne_crc k (by decide)) fun _ =>
      ite_congr rfl (fun _ => x.rejectPacket_of_ne_crc k (by decide)) fun _ =>
      ite_congr rfl (fun _ => x.rejectPacket_of_ne_crc k (by decide)) fun _ =>
      ite_congr rfl (fun _ => x.rejectPacket_of_ne_crc k (by decide)) fun _ => x.deliver_of_current k
  exact ⟨act_updLink hreset hz, act_updLink hreset hz⟩

end Sys2Proof.Machine
end

section
/-! PROOF. What IDLE, OPEN, a data word, CLOSE and a loss of line order do in each receiver state (R4 to R8,
R20), and what none of them touches. -/

namespace Sys2Proof.Machine

/-! ### OPEN -/

theorem LinkState.beginPacket_eq (x : LinkState) :
    x.beginPacket =
      if x.buffer0.state = .free then
        { x with receiver := .receiving, storing := some .zero, line := .start, buffer0 := ⟨.filling, []⟩ }
      else if x.buffer1.state = .free then
        { x with receiver := .receiving, storing := some .one, line := .start, buffer1 := ⟨.filling, []⟩ }
      else
        { x with receiver := .receiving, storing := none, line := .start,
                 counts := { x.counts with overruns := x.counts.overruns + 1 } } := by
  unfold LinkState.beginPacket LinkState.freeSlot
  by_cases hzero : x.buffer0.state = .free
  · rw [if_pos hzero, if_pos hzero]
    rfl
  rw [if_neg hzero, if_neg hzero]
  by_cases hone : x.buffer1.state = .free
  · rw [if_pos hone, if_pos hone]
    rfl
  · rw [if_neg hone, if_neg hone]

theorem LinkState.takeOpen_of_begins {x : LinkState}
    (h : x.receiver = .sync ∨ x.receiver = .receiving ∧ x.storing = none) : x.takeOpen = x.beginPacket := by
  unfold LinkState.takeOpen
  obtain h | ⟨h, hs⟩ := h
  · rw [h]
  · rw [h, hs]

theorem LinkState.takeOpen_of_storing {x : LinkState} {k : PacketSlot} (h : x.receiver = .receiving)
    (hs : x.storing = some k) :
    x.takeOpen = { x.setPacket k ⟨.filling, []⟩ with
      line := .start, counts := { x.counts with framing := x.counts.framing + 1 } } := by
  unfold LinkState.takeOpen
  rw [h, hs]

theorem LinkState.takeOpen_of_deaf {x : LinkState} (hsync : x.receiver ≠ .sync) (h : x.receiver ≠ .receiving) :
    x.takeOpen = x := by
  unfold LinkState.takeOpen
  cases hr : x.receiver with
  | disabled => rfl
  | hunt => rfl
  | sync => exact absurd hr hsync
  | receiving => exact absurd hr h

/-! ### Data words -/

theorem LinkState.takeWord_of_sync {x : LinkState} (h : x.receiver = .sync) (w : Word) :
    x.takeWord w = { x with counts := { x.counts with framing := x.counts.framing + 1 } } := by
  unfold LinkState.takeWord
  rw [h]

theorem LinkState.takeWord_of_storing {x : LinkState} {k : PacketSlot} (h : x.receiver = .receiving)
    (hs : x.storing = some k) (w : Word) :
    x.takeWord w =
      { x with
        line := ⟨x.line.count + 1, crcWord x.line.crc w, x.line.crc, w⟩
        buffer0 := if x.storing = some .zero ∧ x.buffer0.words.length < 261 then
          { x.buffer0 with words := x.buffer0.words ++ [w] } else x.buffer0
        buffer1 := if x.storing = some .one ∧ x.buffer1.words.length < 261 then
          { x.buffer1 with words := x.buffer1.words ++ [w] } else x.buffer1 } := by
  unfold LinkState.takeWord
  rw [h, hs]
  cases k with
  | zero =>
    by_cases hroom : x.buffer0.words.length < 261 <;>
      simp [LinkState.packet, hroom, h, hs, LinkState.setPacket, LineCheck.take]
  | one =>
    by_cases hroom : x.buffer1.words.length < 261 <;>
      simp [LinkState.packet, hroom, h, hs, LinkState.setPacket, LineCheck.take]

theorem LinkState.takeWord_of_discarding {x : LinkState} (hsync : x.receiver ≠ .sync)
    (h : ¬(x.receiver = .receiving ∧ x.storing ≠ none)) (w : Word) : x.takeWord w = x := by
  unfold LinkState.takeWord
  cases hr : x.receiver with
  | disabled => rfl
  | hunt => rfl
  | sync => exact absurd hr hsync
  | receiving =>
    cases hs : x.storing with
    | none => rfl
    | some k => exact absurd ⟨hr, by simp [hs]⟩ h

/-! ### CLOSE between packets -/

theorem LinkState.takeClose_of_not_storing {x : LinkState} (h : x.receiver ≠ .receiving ∨ x.storing = none)
    (l : Nat) :
    x.takeClose l =
      if x.receiver = .sync then { x with counts := { x.counts with framing := x.counts.framing + 1 } }
      else if x.receiver = .receiving then { x with receiver := .sync }
      else x := by
  unfold LinkState.takeClose
  cases hr : x.receiver with
  | disabled => rfl
  | hunt => rfl
  | sync => rfl
  | receiving => rw [h.resolve_left (not_not_intro hr)]; rfl

/-! ### The receiver, code by code -/

theorem LinkState.takeOpen_eq (x : LinkState) :
    x.takeOpen =
      if x.receiver = .sync ∨ (x.receiver = .receiving ∧ x.storing = none) then x.beginPacket
      else if x.receiver = .receiving then
        { x with
          line := .start
          buffer0 := if x.storing = some .zero then ⟨.filling, []⟩ else x.buffer0
          buffer1 := if x.storing = some .one then ⟨.filling, []⟩ else x.buffer1
          counts := { x.counts with framing := x.counts.framing + 1 } }
      else x := by
  by_cases hbegins : x.receiver = .sync ∨ x.receiver = .receiving ∧ x.storing = none
  · rw [if_pos hbegins, LinkState.takeOpen_of_begins hbegins]
  rw [if_neg hbegins]
  by_cases hreceiving : x.receiver = .receiving
  · rw [if_pos hreceiving]
    obtain ⟨k, hk⟩ := Option.ne_none_iff_exists'.mp fun hnone => hbegins (.inr ⟨hreceiving, hnone⟩)
    rw [LinkState.takeOpen_of_storing hreceiving hk]
    cases k <;> simp [hk, LinkState.setPacket]
  · rw [if_neg hreceiving]
    exact LinkState.takeOpen_of_deaf (fun h => hbegins (.inl h)) hreceiving

theorem LinkState.takeWord_eq (x : LinkState) (w : Word) :
    x.takeWord w =
      if x.receiver = .sync then { x with counts := { x.counts with framing := x.counts.framing + 1 } }
      else if x.receiver = .receiving ∧ x.storing ≠ none then
        { x with
          line := ⟨x.line.count + 1, crcWord x.line.crc w, x.line.crc, w⟩
          buffer0 := if x.storing = some .zero ∧ x.buffer0.words.length < 261 then
            { x.buffer0 with words := x.buffer0.words ++ [w] } else x.buffer0
          buffer1 := if x.storing = some .one ∧ x.buffer1.words.length < 261 then
            { x.buffer1 with words := x.buffer1.words ++ [w] } else x.buffer1 }
      else x := by
  by_cases hsync : x.receiver = .sync
  · rw [if_pos hsync, LinkState.takeWord_of_sync hsync]
  rw [if_neg hsync]
  by_cases hstores : x.receiver = .receiving ∧ x.storing ≠ none
  · rw [if_pos hstores]
    obtain ⟨k, hk⟩ := Option.ne_none_iff_exists'.mp hstores.2
    exact LinkState.takeWord_of_storing hstores.1 hk w
  · rw [if_neg hstores]
    exact LinkState.takeWord_of_discarding hsync hstores w

theorem State.sensorIdle_of_hunt {s : State} {l : Link} (h : (s.link l).receiver = .hunt) :
    s.sensorIdle l = (s.updLink l fun x => { x with receiver := .sync }).raise (.linkState l none) := by
  unfold State.sensorIdle
  rw [h]

theorem State.sensorIdle_of_ne_hunt {s : State} {l : Link} (h : (s.link l).receiver ≠ .hunt) :
    s.sensorIdle l = s := by
  unfold State.sensorIdle
  split
  · exact absurd ‹_› h
  all_goals rfl

/-- Settles O5: each code in each receiver state, by the cases of the receiver. -/
theorem sensorReceiverTakesEachCode : Obligations.SensorReceiverTakesEachCode := by
  intro l s hreset
  refine ⟨(act_of_not_inReset hreset (·.sensorIdle l)).trans ?_, act_updLink hreset ?_, fun w => ⟨rfl, act_updLink hreset ?_⟩,
    fun h => ⟨rfl, act_updLink hreset ?_⟩⟩
  · by_cases hhunt : (s.link l).receiver = .hunt
    · rw [if_pos hhunt, State.sensorIdle_of_hunt hhunt]
    · rw [if_neg hhunt, State.sensorIdle_of_ne_hunt hhunt]
  · exact (s.link l).takeOpen_eq.trans (ite_congr rfl (fun _ => (s.link l).beginPacket_eq) fun _ => rfl)
  · exact (s.link l).takeWord_eq w
  · exact LinkState.takeClose_of_not_storing h l

/-! ### Loss of line order -/

theorem LinkState.closeRecord_of_current (x : LinkState) :
    x.closeRecord =
      match x.current with
      | none => x
      | some r =>
        if r.owed ≠ 0 then { x with current := none, closing := x.closing ++ [r] }
        else if x.queue.length < 16 then { x with current := none, queue := x.queue ++ [r.record] }
        else { x with current := none, overflow := true } := by
  unfold LinkState.closeRecord
  cases x.current with
  | none => rfl
  | some r =>
    dsimp only
    by_cases howed : r.owed = 0
    · rw [if_pos howed, if_neg (not_not_intro howed)]
      rfl
    · rw [if_neg howed, if_pos howed]

/-- The link after a loss of line order, in the words of R7, R19 and R20. -/
theorem LinkState.loseLine_eq (x : LinkState) (cause : LossCause) :
    x.loseLine cause =
      LinkState.closeRecord { x with
        receiver := .hunt
        storing := none
        buffer0 := if (x.receiver == .receiving && x.storing.isSome) = true ∧ x.storing = some .zero then
          ⟨.free, []⟩ else x.buffer0
        buffer1 := if (x.receiver == .receiving && x.storing.isSome) = true ∧ x.storing = some .one then
          ⟨.free, []⟩ else x.buffer1
        counts := { x.counts with
          syncLosses := x.counts.syncLosses + 1
          aborts := if cause = .abort then x.counts.aborts + 1 else x.counts.aborts }
        current := x.current.map fun r => ⟨{ r.record with
          syncLost := true
          aborted := r.record.aborted || (x.receiver == .receiving && x.storing.isSome && cause == .abort) },
          r.owed⟩ } := by
  have hne : ∀ r : ReceiverState, r ≠ .receiving → (r == .receiving) = false := fun _ => beq_false_of_ne
  unfold LinkState.loseLine
  obtain ⟨receiver, storing, _, _, _, _, current, _, _, _, _, _⟩ := x
  cases receiver with
  | receiving =>
    cases storing with
    | none => cases current <;> simp [LinkState.closeLost, OwedRecord.markLost]
    | some k =>
      cases k <;> cases current <;>
        simp [LinkState.closeLost, OwedRecord.markLost, OwedRecord.markAborted, LinkState.freePacket,
          PacketBuffer.empty]
  | _ => cases current <;> simp [LinkState.closeLost, OwedRecord.markLost, hne]

/-- Settles O6: a closed record by what it is owed, and the loss in each receiver state. -/
theorem lossOfLineOrderEntersHunt : Obligations.LossOfLineOrderEntersHunt := by
  refine ⟨LinkState.closeRecord_of_current, fun l cause s hreset => ?_⟩
  refine (act_of_not_inReset hreset (·.sensorLoss l cause)).trans
    (congrArg (fun u => Host.Outcome.next (State.settle u)) ?_)
  unfold State.sensorLoss
  have hlink := congrArg (s.updLink l) (funext fun x => x.loseLine_eq cause)
  cases hr : (s.link l).receiver with
  | disabled => rw [if_neg (by simp)]
  | hunt => rw [if_neg (by simp)]
  | sync => rw [if_pos (.inl rfl)]; exact congrArg (State.raise · _) hlink
  | receiving => rw [if_pos (.inr rfl)]; exact congrArg (State.raise · _) hlink

/-! ### What a code does not touch -/

/-- Settles O4: each of the codes changes its link, and IDLE and a loss the notice list besides. -/
theorem sensorCodesTouchOnlyTheirLink : Obligations.SensorCodesTouchOnlyTheirLink := by
  intro l c s hreset hc
  have hlink : ∀ f, ∃ t : State, act (fun s => s.updLink l f) s = .next t.settle ∧
      (∀ k, k ≠ l → t.link k = s.link k) ∧
      t = { s with links := t.links, clp := { s.clp with notices := t.clp.notices } } := fun f =>
    ⟨s.updLink l f, act_of_not_inReset hreset _, fun _ hk => State.link_updLink_of_ne s hk f, rfl⟩
  have hraise : ∀ f p, (∀ k, k ≠ l → ((s.updLink l f).raise p).link k = s.link k) ∧
      (s.updLink l f).raise p = { s with
        links := ((s.updLink l f).raise p).links
        clp := { s.clp with notices := ((s.updLink l f).raise p).clp.notices } } := by
    intro f p
    rw [State.raise_eq]
    exact ⟨fun _ hk => State.link_updLink_of_ne s hk f, rfl⟩
  obtain rfl | rfl | rfl | rfl | ⟨w, rfl⟩ | ⟨w, rfl⟩ | ⟨cause, rfl⟩ := hc
  · refine ⟨s.sensorIdle l, act_of_not_inReset hreset (·.sensorIdle l), ?_⟩
    unfold State.sensorIdle
    split
    · exact hraise _ _
    all_goals exact ⟨fun _ _ => rfl, rfl⟩
  · exact hlink _
  · exact hlink _
  · exact hlink _
  · exact hlink _
  · exact hlink _
  · refine ⟨s.sensorLoss l cause, act_of_not_inReset hreset (·.sensorLoss l cause), ?_⟩
    unfold State.sensorLoss
    split
    · exact hraise _ _
    · exact hraise _ _
    all_goals exact ⟨fun _ _ => rfl, rfl⟩

end Sys2Proof.Machine
end

section
/-! PROOF. The copy arbiter: which link it serves, and what becomes of the packet by its frame number (R30, R33 to
R37). -/

namespace Sys2Proof.Machine

/-! ### The arbiter's turn (R30) -/

/-- How long after the rotation point the arbiter comes to a link. -/
def turnOf (rotation l : Link) : Nat := (l.val + 7 - rotation.val) % 8

theorem pairwise_turnOf_arbiterOrder (r : Link) :
    (arbiterOrder r).Pairwise fun k l => turnOf r k < turnOf r l := by
  revert r
  decide

theorem mem_arbiterOrder (r l : Link) : l ∈ arbiterOrder r := by
  revert r l
  decide

/-- The arbiter finds the link whose turn comes first. -/
theorem find?_arbiterOrder {r l : Link} {p : Link → Bool} (hl : p l = true)
    (hfirst : ∀ k, p k = true → turnOf r l ≤ turnOf r k) : (arbiterOrder r).find? p = some l := by
  obtain ⟨k, hk⟩ := Option.isSome_iff_exists.mp (List.find?_isSome.mpr ⟨l, mem_arbiterOrder r l, hl⟩)
  obtain ⟨hpk, before, after, hsplit, hbefore⟩ := List.find?_eq_some_iff_append.mp hk
  have hmem := mem_arbiterOrder r l
  have hturns := pairwise_turnOf_arbiterOrder r
  rw [hsplit] at hmem hturns
  obtain hmem | hmem := List.mem_append.mp hmem
  · have hnot := hbefore l hmem
    simp [hl] at hnot
  · obtain rfl | hmem := List.mem_cons.mp hmem
    · exact hk
    · have hlater := (List.pairwise_cons.mp (List.pairwise_append.mp hturns).2.1).1 l hmem
      exact absurd (hfirst k hpk) (Nat.not_le.mpr hlater)

/-! ### The grant -/

theorem State.grantCopy_of_idle {s : State} (h : s.sau.copy ≠ none ∨ ∀ l, (s.link l).presented = none) :
    s.grantCopy = s := by
  unfold State.grantCopy
  split
  · rfl
  · rename_i hcopy
    have hnone := h.resolve_left (by simpa using hcopy)
    rw [List.find?_eq_none.mpr fun l _ => by simp [hnone l]]

/-- A served link becomes the rotation point, and its packet is matched. -/
theorem State.grantCopy_of_presented {s : State} {l : Link} {ws : List Word} (hcopy : s.sau.copy = none)
    (hws : (s.link l).presented = some ws)
    (hfirst : ∀ k, (s.link k).presented ≠ none → turnOf s.sau.rotation l ≤ turnOf s.sau.rotation k) :
    s.grantCopy = (s.updSau fun u => { u with rotation := l }).matchPacket l ws := by
  unfold State.grantCopy
  rw [hcopy, find?_arbiterOrder (l := l) (by rw [hws]; rfl)
    fun k hk => hfirst k (Option.isSome_iff_ne_none.mp hk)]
  dsimp only
  rw [hws]
  rfl

/-! ### Matching (R33 to R37) -/

theorem LinkState.uncovered_eq_false_iff (x : LinkState) (ws : List Word) :
    x.uncovered ws = false ↔
      x.entry.enabled = true ∧ packetBlock ws < x.entry.blocks ∧
        packetSlopes ws = x.entry.expected (packetBlock ws) := by
  simp [LinkState.uncovered, and_assoc]

theorem State.matchPacket_of_refused {s : State} {l : Link} {ws : List Word}
    (h : s.running = false ∨ (s.link l).uncovered ws = true) : s.matchPacket l ws = s.returnOutcome l .notStored :=
  if_pos h

section
variable {s : State} {l : Link} {ws : List Word} (hrun : s.running = true)
  (hcovered : (s.link l).uncovered ws = false)
include hrun hcovered

theorem State.matchPacket_of_none (h : s.openBuffer = none) : s.matchPacket l ws = s.matchNew l ws := by
  unfold State.matchPacket
  rw [if_neg (by simp [hrun, hcovered]), h]

theorem State.matchPacket_of_same {x : BufferId} (h : s.openBuffer = some x)
    (htag : packetFrame ws = (s.desc x).tag) : s.matchPacket l ws = s.matchSame l x ws := by
  unfold State.matchPacket
  rw [if_neg (by simp [hrun, hcovered]), h]
  exact if_pos htag

theorem State.matchPacket_of_after {x : BufferId} (h : s.openBuffer = some x)
    (htag : frameAfter (packetFrame ws) (s.desc x).tag = true) :
    s.matchPacket l ws = (s.closeBuffer x .overtaken).matchNew l ws := by
  have hne : packetFrame ws ≠ (s.desc x).tag := fun heq => by
    rw [heq] at htag
    simp [frameAfter] at htag
  unfold State.matchPacket
  rw [if_neg (by simp [hrun, hcovered]), h]
  exact (if_neg hne).trans (if_pos htag)

theorem State.matchPacket_of_before {x : BufferId} (h : s.openBuffer = some x)
    (htag : frameBefore (packetFrame ws) (s.desc x).tag = true) :
    s.matchPacket l ws = s.returnOutcome l .stale := by
  have hne : packetFrame ws ≠ (s.desc x).tag := fun heq => by
    rw [heq] at htag
    simp [frameBefore] at htag
  have hnot : ¬frameAfter (packetFrame ws) (s.desc x).tag = true := fun hafter => by
    simp only [frameAfter, frameBefore, Bool.and_eq_true, decide_eq_true_eq] at hafter htag
    omega
  unfold State.matchPacket
  rw [if_neg (by simp [hrun, hcovered]), h]
  exact (if_neg hne).trans (if_neg hnot)

end

/-- A packet of a frame with no buffer OPEN: STALE, a buffer opened and its copy begun, or NO_BUFFER. -/
theorem State.matchNew_eq (s : State) (l : Link) (ws : List Word) :
    s.matchNew l ws =
      if (s.sau.lastClosed.any fun tag => !frameAfter (packetFrame ws) tag) = true then s.returnOutcome l .stale
      else (s.freeBuffer.map fun x => (s.openWith x (packetFrame ws)).beginCopy l x ws).getD
        (s.returnOutcome l .noBuffer) := by
  unfold State.matchNew
  refine ite_congr ?_ (fun _ => rfl) fun _ => ?_
  · cases s.sau.lastClosed <;> rfl
  · cases s.freeBuffer <;> rfl

/-- A copy begins at the place the sensor map gave before the buffer opened. -/
theorem State.beginCopy_openWith (s : State) (l : Link) (x : BufferId) (ws : List Word) :
    (s.openWith x (packetFrame ws)).beginCopy l x ws =
      (s.openWith x (packetFrame ws)).updSau fun u =>
        { u with copy := some ⟨l, x, (s.link l).entry.base + packetBlock ws⟩ } := by
  have hlink : (s.openWith x (packetFrame ws)).link l = s.link l := by
    unfold State.link
    rw [(SameSurroundings.openWith s x (packetFrame ws)).links]
  rw [State.beginCopy, hlink]

theorem State.link_closeBuffer (s : State) (x : BufferId) (c : ClosureCause) (l : Link) :
    (s.closeBuffer x c).link l = s.link l := by
  unfold State.link
  rw [(SameSurroundings.closeBuffer s x c).links]

/-- Settles O11: the arbiter's find, then the decision of R33 to R37 by the OPEN buffer and the frame number. -/
theorem copyGrantServesLinksInTurn : Obligations.CopyGrantServesLinksInTurn := by
  intro s hreset
  have hexec : exec .copyGrant s = .next s.grantCopy.settle := act_of_not_inReset hreset _
  refine ⟨fun h => by rw [hexec, State.grantCopy_of_idle h], fun l ws hcopy hws hfirst => ?_⟩
  intro u e covered refused copied fresh
  have hgrant : s.grantCopy = u.matchPacket l ws := State.grantCopy_of_presented hcopy hws hfirst
  rw [hexec, hgrant]
  have hcovers : (u.link l).uncovered ws = false ↔ covered := (s.link l).uncovered_eq_false_iff ws
  have hfresh : ∀ t : State, (t.link l).entry = e → .next (t.matchNew l ws).settle = fresh t := by
    intro t ht
    rw [State.matchNew_eq]
    simp only [fresh]
    split
    · rfl
    · cases t.freeBuffer with
      | none => rfl
      | some x =>
        dsimp only [Option.map_some, Option.getD_some]
        rw [State.beginCopy_openWith, ht]
        rfl
  constructor
  · intro hrefused
    rw [State.matchPacket_of_refused (s := u) (hrefused.imp_right fun hnot => by
      rwa [← hcovers, Bool.not_eq_false] at hnot)]
    rfl
  · intro hrun hcov
    have hcov := hcovers.mpr hcov
    constructor
    · intro hnone
      rw [State.matchPacket_of_none (s := u) hrun hcov hnone]
      exact hfresh u rfl
    intro x hx accepted
    refine ⟨fun htag hacc => ?_, fun htag hacc hend => ?_, fun htag hacc hend => ?_, fun htag => ?_, fun htag => ?_⟩
    · rw [State.matchPacket_of_same (s := u) hrun hcov hx htag]
      exact congrArg (fun t => Host.Outcome.next (State.settle t)) (if_neg (ne_true_of_eq_false hacc))
    · rw [State.matchPacket_of_same (s := u) hrun hcov hx htag]
      exact congrArg (fun t => Host.Outcome.next (State.settle t))
        ((if_pos hacc).trans (if_neg (ne_true_of_eq_false hend)))
    · rw [State.matchPacket_of_same (s := u) hrun hcov hx htag]
      exact congrArg (fun t => Host.Outcome.next (State.settle t)) ((if_pos hacc).trans (if_pos hend))
    · rw [State.matchPacket_of_after (s := u) hrun hcov hx htag]
      exact hfresh _ (congrArg LinkState.entry (State.link_closeBuffer u x .overtaken l))
    · rw [State.matchPacket_of_before (s := u) hrun hcov hx htag]
      rfl

end Sys2Proof.Machine
end

section
/-! PROOF. What an attach fixes, and how the engine takes the blocks of its buffer (R56, R80, R86 to R92, R104,
R106). -/

namespace Sys2Proof.Machine

/-! ### The swap and the apply of an attach -/

theorem State.makeSwap_of_none {s : State} (h : s.mmc.swap = none) (tag : Option Word) : s.makeSwap tag = s := by
  unfold State.makeSwap
  rw [h]

theorem State.makeSwap_of_some {s : State} {k : BankId} (h : s.mmc.swap = some k) (tag : Option Word) :
    s.makeSwap tag = (s.updMmc fun m => { m with active := k, swap := none }).raise (.swapDone k tag) := by
  unfold State.makeSwap
  rw [h]

theorem State.filterAttach_of_not_pending {s : State} (h : s.tfu.applyPending = false) (tag : Word) :
    s.filterAttach tag = s := if_neg (by simp [h])

theorem State.filterAttach_of_running {s : State} (h : s.tfu.applyPending = true) (hpass : s.tfu.pass ≠ none)
    (tag : Word) :
    s.filterAttach tag = s.updTfu fun t => { t with applyDue := true, applyTag := tag } :=
  (if_pos h).trans (if_pos (Option.isSome_iff_ne_none.mpr hpass))

theorem State.filterAttach_of_rest {s : State} (h : s.tfu.applyPending = true) (hpass : s.tfu.pass = none)
    (tag : Word) : s.filterAttach tag = s.applyAt (.attach tag) :=
  (if_pos h).trans (if_neg (by simp [hpass]))

theorem State.makeSwap_tfu (s : State) (tag : Option Word) : (s.makeSwap tag).tfu = s.tfu := by
  unfold State.makeSwap
  split <;> rfl

theorem State.makeSwap_bank (s : State) (tag : Option Word) (k : BankId) : (s.makeSwap tag).bank k = s.bank k := by
  unfold State.makeSwap
  split
  · cases k <;> rfl
  · rfl

/-- The swap and the apply of an attach to a buffer with this tag, without the engine's own steps. -/
def State.stagedMade (s : State) (tag : Word) : State :=
  if s.tfu.applyPending = false then s.makeSwap (some tag)
  else if s.tfu.pass = none then
    State.raise { s.makeSwap (some tag) with tfu := s.tfu.apply } (.paramsApplied (.attach tag))
  else { s.makeSwap (some tag) with tfu := { s.tfu with applyDue := true, applyTag := tag } }

theorem State.stagedMade_mmc (s : State) (tag : Word) : (s.stagedMade tag).mmc = (s.makeSwap (some tag)).mmc := by
  unfold State.stagedMade
  split
  · rfl
  · split <;> rfl

/-- Up to the engine and the buffer the steps of an attach are the swap and the apply. -/
theorem State.filterAttach_bankFixed (s : State) (tag : Word) :
    ((s.makeSwap (some tag)).bankFixed).filterAttach tag =
      { s.stagedMade tag with rce := (s.makeSwap (some tag)).bankFixed.rce } := by
  have htfu := s.makeSwap_tfu (some tag)
  unfold State.stagedMade
  by_cases hpending : s.tfu.applyPending = false
  · rw [if_pos hpending, State.filterAttach_of_not_pending (htfu ▸ hpending)]
    rfl
  rw [if_neg hpending]
  have hpending : (s.makeSwap (some tag)).bankFixed.tfu.applyPending = true := by
    rw [State.bankFixed, State.updRce_tfu, htfu]
    simpa using hpending
  by_cases hpass : s.tfu.pass = none
  · rw [if_pos hpass, State.filterAttach_of_rest hpending (htfu ▸ hpass), ← htfu]
    rfl
  · rw [if_neg hpass, State.filterAttach_of_running hpending (htfu ▸ hpass), ← htfu]
    rfl

/-- Between a state and its swap and apply only the memory controller, the filter and the control link port
differ. -/
theorem StagedFrame.stagedMade (s : State) (tag : Word) : StagedFrame s (s.stagedMade tag) := by
  have hswap := StagedFrame.makeSwap s (some tag)
  unfold State.stagedMade
  split
  · exact hswap
  · split
    · exact hswap.trans rfl
    · exact hswap.trans rfl

theorem StagedFrame.drp {s t : State} (h : StagedFrame s t) : t.drp = s.drp := by rw [h]

/-- The state of an attach after its first six steps: outside the engine and the buffer, the swap and the
apply. -/
theorem State.beginCycle_frame (s : State) (x : BufferId) :
    s.beginCycle x =
      { s.stagedMade (s.desc x).tag with
        sau := (s.updDesc x fun d => { d with relation := .attached }).sau
        rce := (s.beginCycle x).rce } := by
  have hsau := (StagedFrame.stagedMade s (s.desc x).tag).sau
  rw [State.beginCycle_eq, State.filterAttach_bankFixed]
  cases x
  · simp only [State.updDesc, State.updBuffer, State.updSau, State.cycleCleared, State.updRce, hsau]
  · simp only [State.updDesc, State.updBuffer, State.updSau, State.cycleCleared, State.updRce, hsau]

/-- What an attach fixes in the engine (R87). -/
theorem State.beginCycle_rce (s : State) (x : BufferId) :
    (s.beginCycle x).rce = { s.rce with
      bank := some (s.stagedMade (s.desc x).tag).mmc.active
      shift := some (s.bank (s.stagedMade (s.desc x).tag).mmc.active).shift
      attached := some x
      attachedAt := some s.ctu.timebase
      block := none, nextRow := 0, residuals := []
      sums := mapTable (fun i p => if i < s.actuators then 0 else p) s.rce.sums } := by
  have hframe := StagedFrame.stagedMade s (s.desc x).tag
  have hrce : (s.makeSwap (some (s.desc x).tag)).bankFixed.rce = { s.rce with
      bank := some (s.stagedMade (s.desc x).tag).mmc.active
      shift := some (s.bank (s.stagedMade (s.desc x).tag).mmc.active).shift } := by
    rw [State.stagedMade_mmc, State.bankFixed, State.updRce_rce, (StagedFrame.makeSwap s _).rce,
      State.makeSwap_bank]
  rw [State.beginCycle_eq, State.filterAttach_bankFixed]
  show (State.cycleCleared _ x).rce = _
  simp only [State.cycleCleared, State.updRce_rce, State.actuators, hrce, hframe.ctu, hframe.drp]
  rfl

/-! ### Blocks (R88 to R92) -/

/-- The burst of the engine's next row, at the place of R70. -/
def State.nextRowBurst (s : State) (k : BankId) (g : Nat) : Burst :=
  { who := .engine, place := rowPlace (s.entry k g).base s.rce.nextRow, write := none, bank := k, block := g,
    row := s.rce.nextRow, dropped := false }

theorem State.presentRow_of_busy {s : State} {g : Nat} {k : BankId} (hstate : s.rce.state = .busy)
    (hblock : s.rce.block = some g) (hbank : s.rce.bank = some k) :
    s.presentRow =
      if s.rce.nextRow < s.actuators then
        (s.updMmc fun m => { m with engineWaits := some (s.nextRowBurst k g) }).updRce fun e =>
          { e with nextRow := e.nextRow + 1 }
      else s := by
  unfold State.presentRow
  rw [hstate, hblock, hbank]
  rfl

theorem State.presentRow_of_not_busy {s : State}
    (h : s.rce.state ≠ .busy ∨ s.rce.block = none ∨ s.rce.bank = none) : s.presentRow = s := by
  unfold State.presentRow
  split
  · rename_i hstate hblock hbank
    simp [hstate, hblock, hbank] at h
  · rfl

theorem State.takeBlocks_nil (x : BufferId) (s : State) :
    State.takeBlocks x [] s =
      let t := s.updDesc x fun d => { d with ready := [] }
      if (s.desc x).state = .opened then t.updRce fun e => { e with state := .waiting, block := none }
      else t.formResiduals := by
  unfold State.takeBlocks
  dsimp only
  rw [State.desc_updDesc_same]

theorem State.takeBlocks_cons (x : BufferId) (g : Nat) (rest : List Nat) (s : State) :
    State.takeBlocks x (g :: rest) s =
      if (s.rce.bank.any fun k => (s.entry k g).present) = true then
        ((s.updDesc x fun d => { d with ready := rest }).updRce fun e =>
          { e with state := .busy, block := some g, nextRow := 0 }).presentRow
      else State.takeBlocks x rest (s.updCounts fun c => { c with absentBlocks := c.absentBlocks + 1 }) := by
  rw [State.takeBlocks]
  refine ite_congr ?_ (fun _ => rfl) fun _ => rfl
  cases s.rce.bank <;> rfl

theorem State.continueCycle_of_attached {s : State} {x : BufferId} (h : s.rce.attached = some x) :
    s.continueCycle = State.takeBlocks x (s.desc x).ready s := by
  unfold State.continueCycle
  rw [h]

theorem State.offer_of_ne {s : State} (h : s.rce.state ≠ .delivering) : s.offer = s := by
  unfold State.offer
  split
  · exact absurd ‹_› h
  · rfl

/-! ### The choice on entering IDLE (R56, R86) -/

theorem State.attachOnIdle_eq (s : State) :
    s.attachOnIdle = (s.idleChoice.map s.attach).getD s := by
  unfold State.attachOnIdle
  cases s.idleChoice <;> rfl

/-- Settles O16: the six steps' frame, the recursion over the ready queue, and the choice at IDLE. -/
theorem attachFixesBankShiftAndSums : Obligations.AttachFixesBankShiftAndSums := by
  refine ⟨fun s x => ?_, fun s => ?_, fun s x => State.takeBlocks_nil x s,
    fun s x g rest => State.takeBlocks_cons x g rest s,
    fun s g k hstate hblock hbank => State.presentRow_of_busy hstate hblock hbank,
    fun s h => State.presentRow_of_not_busy h, fun s => ?_, fun s => rfl⟩
  · intro tag a b t
    have ha : s.makeSwap (some tag) = a := by
      cases hswap : s.mmc.swap with
      | none => simp only [a, hswap, State.makeSwap_of_none hswap]
      | some k =>
        simp only [a, hswap, State.makeSwap_of_some hswap]
        rfl
    have hb : s.stagedMade tag = b := by
      rw [State.stagedMade, ha]
    have hframe := s.beginCycle_frame x
    have hsau : t.sau = (s.updDesc x fun d => { d with relation := .attached }).sau := by
      rw [show t = _ from hframe]
    have hrce := s.beginCycle_rce x
    rw [hb] at hframe hrce
    refine ⟨rfl, hframe.trans ?_, hrce.trans ?_, fun i p q hp hq => ?_, hsau⟩
    · rw [hsau]
    · rw [show t.rce = _ from hrce]
    · rw [show t.rce = _ from hrce] at hq
      simp only [mapTable_toList, List.getElem?_mapIdx, hp, Option.map_some, Option.some.injEq] at hq
      exact hq.symm
  · rfl
  · rw [State.attachOnIdle_eq]
    unfold State.idleChoice
    by_cases hidle : s.rce.state = .idle ∧ s.running = true
    · rw [if_pos hidle, if_pos hidle]
      show _ = match s.ctu.order, s.ctu.trigger, s.openToTake with
        | .batch, .immediate, _ => (s.oldestWaiting.map s.attach).getD s
        | .batch, _, _ => s
        | .stream, _, some x => s.attach x
        | .stream, _, none => (s.oldestWaiting.map s.attach).getD s
      cases s.ctu.order with
      | batch => cases s.ctu.trigger <;> rfl
      | stream => cases s.openToTake <;> cases s.ctu.trigger <;> rfl
    · rw [if_neg hidle, if_neg hidle]
      rfl

end Sys2Proof.Machine
end

section
/-! PROOF. Which buffer is OPEN and which opens next (R27, R29), and the opening of a buffer with the attach of an
IDLE engine in STREAM order (R38, R53, R86). -/

namespace Sys2Proof.Machine

/-! ### Which buffer -/

theorem State.freeBuffer_eq_some_iff (s : State) (x : BufferId) :
    s.freeBuffer = some x ↔
      (s.desc x).state = .free ∧ (x = s.sau.lastOpened → (s.desc x.other).state ≠ .free) := by
  unfold State.freeBuffer
  obtain rfl | rfl := s.sau.lastOpened.eq_or_eq_other x
  · by_cases hother : (s.desc s.sau.lastOpened.other).state = .free
    · simp [hother, s.sau.lastOpened.other_ne]
    · by_cases hlast : (s.desc s.sau.lastOpened).state = .free
      · simp [hother, hlast]
      · simp [hother, hlast]
  · by_cases hother : (s.desc s.sau.lastOpened.other).state = .free
    · simp [hother, s.sau.lastOpened.other_ne]
    · by_cases hlast : (s.desc s.sau.lastOpened).state = .free
      · simp [hother, hlast, s.sau.lastOpened.other_ne.symm]
      · simp [hother, hlast]

theorem State.openBuffer_eq_none_iff (s : State) : s.openBuffer = none ↔ ∀ y, (s.desc y).state ≠ .opened := by
  unfold State.openBuffer
  by_cases ha : (s.desc .a).state = .opened
  · rw [if_pos ha]
    exact ⟨(nomatch ·), fun h => absurd ha (h .a)⟩
  rw [if_neg ha]
  by_cases hb : (s.desc .b).state = .opened
  · rw [if_pos hb]
    exact ⟨(nomatch ·), fun h => absurd hb (h .b)⟩
  rw [if_neg hb]
  exact ⟨fun _ y => by cases y <;> assumption, fun _ => rfl⟩

theorem State.openBuffer_of_opened {s : State} {x : BufferId} (hx : (s.desc x).state = .opened)
    (hother : (s.desc x.other).state ≠ .opened) : s.openBuffer = some x := by
  unfold State.openBuffer
  cases x
  · exact if_pos hx
  · exact (if_neg hother).trans (if_pos hx)

/-! ### An attach to a buffer just opened -/

theorem State.beginCycle_desc_same (s : State) (x : BufferId) :
    (s.beginCycle x).desc x = { s.desc x with relation := .attached } := by
  rw [s.beginCycle_frame x]
  cases x <;> rfl

/-- An attach to an OPEN buffer with an empty ready queue leaves the engine WAITING (R88). -/
theorem State.attachNow_of_empty {s : State} {x : BufferId} (hopen : (s.desc x).state = .opened)
    (hready : (s.desc x).ready = []) :
    s.attachNow x = ((s.beginCycle x).updDesc x fun d => { d with ready := [] }).updRce fun e =>
      { e with state := .waiting, block := none } := by
  have hattached : (s.beginCycle x).rce.attached = some x := by rw [State.beginCycle_rce]
  have hdesc := s.beginCycle_desc_same x
  have hwaiting : s.attach x = ((s.beginCycle x).updDesc x fun d => { d with ready := [] }).updRce fun e =>
      { e with state := .waiting, block := none } := by
    rw [State.attach, State.continueCycle_of_attached hattached, hdesc]
    dsimp only
    rw [hready, State.takeBlocks_nil]
    exact if_pos (by rw [hdesc]; exact hopen)
  rw [State.attachNow, hwaiting]
  exact State.offer_of_ne (fun h => nomatch h)

/-- Outside the engine and the buffer such an attach is the swap and the apply. -/
theorem State.attachNow_frame_of_empty {s : State} {x : BufferId} (hopen : (s.desc x).state = .opened)
    (hready : (s.desc x).ready = []) :
    s.attachNow x =
      { s.stagedMade (s.desc x).tag with
        sau := (s.updDesc x fun d => { d with relation := .attached, ready := [] }).sau
        rce := (s.attachNow x).rce } := by
  rw [State.attachNow_of_empty hopen hready]
  conv => lhs; rw [s.beginCycle_frame x]
  cases x <;> rfl

theorem State.attachNow_rce_of_empty {s : State} {x : BufferId} (hopen : (s.desc x).state = .opened)
    (hready : (s.desc x).ready = []) :
    (s.attachNow x).rce.state = .waiting ∧ (s.attachNow x).rce.attached = some x := by
  rw [State.attachNow_of_empty hopen hready]
  refine ⟨rfl, ?_⟩
  show (s.beginCycle x).rce.attached = some x
  rw [State.beginCycle_rce]

theorem StagedFrame.links {s t : State} (h : StagedFrame s t) : t.links = s.links := by rw [h]
theorem StagedFrame.tmr {s t : State} (h : StagedFrame s t) : t.tmr = s.tmr := by rw [h]

/-- Settles O12: the grant comes to `openWith`, whose parts are read off; and the searches for a buffer. -/
theorem copyGrantOpensABuffer : Obligations.CopyGrantOpensABuffer := by
  refine ⟨?_, fun s x => ⟨s.freeBuffer_eq_some_iff x, s.openBuffer_eq_none_iff, State.state_of_openBuffer,
    State.openBuffer_of_opened⟩⟩
  rintro s l ws x ⟨hreset, hrun, hcopy⟩ hws hfirst hcovered hnone hlast hfree hturn
  have hgrant := State.grantCopy_of_presented hcopy hws hfirst
  let u : State := s.updSau fun u => { u with rotation := l }
  have hmatch : s.grantCopy = (u.openWith x (packetFrame ws)).updSau fun v =>
      { v with copy := some ⟨l, x, (s.link l).entry.base + packetBlock ws⟩ } := by
    rw [hgrant, State.matchPacket_of_none (s := u) hrun hcovered hnone, State.matchNew_eq, if_neg ?_,
      show u.freeBuffer = some x from (u.freeBuffer_eq_some_iff x).mpr ⟨hfree, hturn⟩]
    · exact State.beginCopy_openWith u l x ws
    · show ¬(s.sau.lastClosed.any fun tag => !frameAfter (packetFrame ws) tag) = true
      cases htag : s.sau.lastClosed with
      | none => exact fun hstale => nomatch hstale
      | some tag => simp [hlast tag htag]
  refine ⟨_, (act_of_not_inReset hreset State.grantCopy), ?_⟩
  rw [hmatch, State.openWith_eq]
  by_cases hattach : s.ctu.order = .stream ∧ s.rce.state = .idle
  · have hopen : ((u.opened x (packetFrame ws)).desc x).state = .opened := by cases x <;> rfl
    have hready : ((u.opened x (packetFrame ws)).desc x).ready = [] := by cases x <;> rfl
    have hrce := State.attachNow_rce_of_empty hopen hready
    have hstaged := StagedFrame.stagedMade (u.opened x (packetFrame ws)) ((u.opened x (packetFrame ws)).desc x).tag
    have hdram := (SameSurroundings.attachNow (u.opened x (packetFrame ws)) x).dram
    rw [if_pos (show u.ctu.order = .stream ∧ u.rce.state = .idle from hattach), if_pos hattach,
      State.attachNow_frame_of_empty hopen hready]
    rw [State.attachNow_frame_of_empty hopen hready] at hdram
    refine ⟨?_, rfl, ?_, ?_, hstaged.ctu, hstaged.lsv, hstaged.links, hstaged.drp, hstaged.tmr, hdram, ?_, hrce⟩
    all_goals cases x <;> rfl
  · rw [if_neg (show ¬(u.ctu.order = .stream ∧ u.rce.state = .idle) from hattach), if_neg hattach]
    refine ⟨?_, rfl, ?_, ?_, rfl, rfl, rfl, rfl, rfl, rfl, ?_, ?_⟩
    all_goals cases x <;> rfl

end Sys2Proof.Machine
end

section
/-! PROOF. The closure of a buffer: its steps, what they come from, and that nothing that follows a closure
changes what it has recorded (R31, R32, R40 to R45, R53, R54). -/

namespace Sys2Proof.Machine

/-! ### What is kept of closures -/

/-- The same tag, closure cause and close timestamp, and not OPEN if it was not. -/
def Descriptor.SameClosure (d d' : Descriptor) : Prop :=
  d'.tag = d.tag ∧ d'.cause = d.cause ∧ d'.closedAt = d.closedAt ∧ (d'.state = .opened → d.state = .opened)

/-- Between `s` and `t` nothing that a closure records has changed, nor the timing unit. -/
structure KeepsClosures (s t : State) : Prop where
  ctu : t.ctu = s.ctu
  lastClosed : t.sau.lastClosed = s.sau.lastClosed
  desc : ∀ y, (s.desc y).SameClosure (t.desc y)

namespace KeepsClosures

variable {s t u : State}

theorem of_sau (hsau : t.sau = s.sau) (hctu : t.ctu = s.ctu) : KeepsClosures s t where
  ctu := hctu
  lastClosed := by rw [hsau]
  desc y := by
    have hdesc : t.desc y = s.desc y := by
      cases y <;> (unfold State.desc State.buffer; rw [hsau])
    rw [hdesc]
    exact ⟨rfl, rfl, rfl, id⟩

theorem refl (s : State) : KeepsClosures s s := of_sau rfl rfl

theorem trans (h : KeepsClosures s t) (k : KeepsClosures t u) : KeepsClosures s u where
  ctu := k.ctu.trans h.ctu
  lastClosed := k.lastClosed.trans h.lastClosed
  desc y := by
    obtain ⟨htag, hcause, hat, hopen⟩ := h.desc y
    obtain ⟨ktag, kcause, kat, kopen⟩ := k.desc y
    exact ⟨ktag.trans htag, kcause.trans hcause, kat.trans hat, fun hu => hopen (kopen hu)⟩

theorem ifElse {p : Prop} [Decidable p] (ht : KeepsClosures s t) (hu : KeepsClosures s u) :
    KeepsClosures s (if p then t else u) := by
  split
  · exact ht
  · exact hu

theorem updDesc (s : State) (x : BufferId) {f : Descriptor → Descriptor} (hf : (s.desc x).SameClosure (f (s.desc x))) :
    KeepsClosures s (s.updDesc x f) where
  ctu := rfl
  lastClosed := by cases x <;> rfl
  desc y := by
    by_cases hy : y = x
    · subst hy
      rw [State.desc_updDesc_same]
      exact hf
    · rw [State.desc_updDesc_of_ne s hy]
      exact ⟨rfl, rfl, rfl, id⟩

theorem retire (s : State) (x : BufferId) : KeepsClosures s (s.retire x) :=
  ifElse (updDesc s x ⟨rfl, rfl, rfl, fun h => nomatch h⟩) (refl s)

theorem freeIfReleased (s : State) (x : BufferId) : KeepsClosures s (s.freeIfReleased x) :=
  ifElse (updDesc s x ⟨rfl, rfl, rfl, fun h => nomatch h⟩) (refl s)

theorem giveSkip (s : State) (x : BufferId) (c : SkipCause) (r : CycleReport) :
    KeepsClosures s (s.giveSkip x c r) :=
  have hframe := OutcomeFrame.giveSkip s x c r
  (updDesc s x (f := fun d => { d with outcome := some .skipped, skip := some c }) ⟨rfl, rfl, rfl, id⟩).trans
    (of_sau hframe.sau hframe.ctu)

theorem letGo (s : State) (x : BufferId) : KeepsClosures s (s.updDesc x Descriptor.letGo) := by
  refine updDesc s x ?_
  unfold Descriptor.letGo
  split <;> exact ⟨rfl, rfl, rfl, id⟩

theorem updRce (s : State) (f : Rce → Rce) : KeepsClosures s (s.updRce f) := of_sau rfl rfl

/-! ### The engine -/

theorem engineLetsGo (s : State) : KeepsClosures s s.engineLetsGo := by
  have hreleased : KeepsClosures s (s.updRce Rce.released) := of_sau rfl rfl
  cases hx : s.rce.attached with
  | none =>
    rw [State.engineLetsGo_of_none hx]
    exact hreleased
  | some x =>
    rw [State.engineLetsGo_of_some hx]
    have hlet := hreleased.trans (letGo _ x)
    exact ifElse (hlet.trans (freeIfReleased _ x)) hlet

theorem engineStops (s : State) : KeepsClosures s s.engineStops :=
  ifElse (of_sau rfl rfl) ((of_sau rfl rfl : KeepsClosures s s.dropEngineBurst).trans (engineLetsGo _))

theorem abandon (s : State) : KeepsClosures s s.abandon := by
  unfold State.abandon
  split
  · exact refl s
  · exact refl s
  · exact engineLetsGo s
  · exact engineLetsGo s
  · exact engineStops s

theorem reportIdle (s : State) : KeepsClosures s s.reportIdle := by
  unfold State.reportIdle
  split
  · split
    · exact of_sau rfl rfl
    · exact refl s
  · exact refl s

theorem presentRow (s : State) : KeepsClosures s s.presentRow := by
  unfold State.presentRow
  split
  · exact ifElse (of_sau rfl rfl) (refl s)
  · exact refl s

theorem takeBlocks (x : BufferId) (gs : List Nat) (s : State) : KeepsClosures s (State.takeBlocks x gs s) := by
  have hready : ∀ ready : List Nat, KeepsClosures s (s.updDesc x fun d => { d with ready := ready }) :=
    fun ready => updDesc s x ⟨rfl, rfl, rfl, id⟩
  induction gs generalizing s with
  | nil =>
    rw [State.takeBlocks_nil]
    exact ifElse ((hready []).trans (of_sau rfl rfl)) ((hready []).trans (of_sau rfl rfl))
  | cons g rest ih =>
    rw [State.takeBlocks_cons]
    refine ifElse (((hready rest).trans (updRce _ _)).trans (presentRow _))
      ((of_sau rfl rfl : KeepsClosures s (s.updCounts _)).trans (ih _ fun ready => ?_))
    exact updDesc _ x ⟨rfl, rfl, rfl, id⟩

theorem continueCycle (s : State) : KeepsClosures s s.continueCycle := by
  unfold State.continueCycle
  split
  · exact takeBlocks _ _ s
  · exact refl s

theorem attach (s : State) (x : BufferId) : KeepsClosures s (s.attach x) := by
  have hstaged := StagedFrame.stagedMade s (s.desc x).tag
  have hrelation : KeepsClosures s (s.updDesc x fun d => { d with relation := .attached }) :=
    updDesc s x ⟨rfl, rfl, rfl, id⟩
  have hbegun : KeepsClosures s (s.beginCycle x) := by
    rw [s.beginCycle_frame x]
    exact hrelation.trans (of_sau rfl hstaged.ctu)
  exact hbegun.trans (continueCycle _)

theorem attachOnIdle (s : State) : KeepsClosures s s.attachOnIdle := by
  unfold State.attachOnIdle
  split
  · exact attach s _
  · exact refl s

theorem offer (s : State) : KeepsClosures s s.offer := by
  unfold State.offer
  split
  · rw [State.takeOffer_eq]
    exact ((of_sau rfl rfl : KeepsClosures s (s.passStarted _)).trans (engineLetsGo _)).trans (attachOnIdle _)
  · exact refl s

theorem enterIdle (s : State) : KeepsClosures s s.enterIdle :=
  ((reportIdle s).trans (attachOnIdle _)).trans (offer _)

/-! ### What follows a closure -/

theorem skipMissing (s : State) (x : BufferId) : KeepsClosures s (s.skipMissing x) := by
  have hgiven := (giveSkip s x .missing (s.skipReport x .missing)).trans (retire _ x)
  have habandoned := hgiven.trans (abandon _)
  exact ifElse (ifElse (habandoned.trans (enterIdle _)) habandoned) (hgiven.trans (freeIfReleased _ x))

theorem handOn (s : State) (x : BufferId) : KeepsClosures s (s.handOn x) := by
  unfold State.handOn
  split
  · exact (attachOnIdle s).trans (offer _)
  · exact ifElse ((continueCycle s).trans (offer _)) (refl s)

/-- Once the closure is marked, its record stands. -/
theorem closeBuffer (s : State) (x : BufferId) (c : ClosureCause) :
    KeepsClosures (s.markClosed x c) (s.closeBuffer x c) :=
  ifElse ((retire _ x).trans (freeIfReleased _ x)) (ifElse (skipMissing _ x) (handOn _ x))

end KeepsClosures

/-! ### The closure, step by step (R42 to R44) -/

theorem State.missingEssential_iff (s : State) (x : BufferId) :
    s.missingEssential x = true ↔
      ∃ l : Link, (s.link l).entry.enabled = true ∧ (s.link l).entry.role = .essential ∧
        ((s.desc x).sensors[l]).complete = false := by
  simp [State.missingEssential, and_assoc]

theorem State.desc_markClosed_same (s : State) (x : BufferId) (c : ClosureCause) :
    (s.markClosed x c).desc x =
      { s.desc x with state := .closed, cause := some c, closedAt := s.ctu.timebase } := by
  cases x <;> rfl

theorem countClosure_eq (c : ClosureCause) (n : CycleCounts) :
    countClosure c n = { n with
      closedComplete := n.closedComplete + (if c = .complete then 1 else 0)
      closedEnded := n.closedEnded + (if c = .ended then 1 else 0)
      closedDeadline := n.closedDeadline + (if c = .deadline then 1 else 0)
      closedOvertaken := n.closedOvertaken + (if c = .overtaken then 1 else 0) } := by
  cases c <;> simp [countClosure]

theorem State.markClosed_eq (s : State) (x : BufferId) (c : ClosureCause) :
    s.markClosed x c =
      let u := s.updDesc x fun _ => { s.desc x with state := .closed, cause := some c, closedAt := s.ctu.timebase }
      { u with
        sau := { u.sau with
          lastClosed := some (s.desc x).tag, closeOrder := u.sau.closeOrder.filter (· != x) ++ [x] }
        ctu := { s.ctu with deadlineAt := none }
        lsv := { s.lsv with counts := countClosure c s.lsv.counts } } := by
  cases x <;> rfl

/-- A closed buffer handed on, by the compute order (R56, R92). -/
theorem State.handOn_eq (s : State) (x : BufferId) :
    s.handOn x =
      if s.ctu.order = .batch then s.attachOnIdle.offer
      else if s.rce.state = .waiting ∧ s.rce.attached = some x then s.continueCycle.offer
      else s := by
  unfold State.handOn
  cases s.ctu.order <;> rfl

theorem State.closeBuffer_eq (s : State) (x : BufferId) (c : ClosureCause) :
    s.closeBuffer x c =
      if (s.desc x).outcome ≠ none then ((s.markClosed x c).retire x).freeIfReleased x
      else if ∃ l : Link, (s.link l).entry.enabled = true ∧ (s.link l).entry.role = .essential ∧
          ((s.desc x).sensors[l]).complete = false then (s.markClosed x c).skipMissing x
      else (s.markClosed x c).handOn x := by
  have hdesc := s.desc_markClosed_same x c
  have hmissing := (s.markClosed x c).missingEssential_iff x
  rw [hdesc] at hmissing
  refine ite_congr (propext ?_) (fun _ => rfl) fun _ => ite_congr (propext ?_) (fun _ => rfl) fun _ => rfl
  · rw [hdesc]
    exact Option.isSome_iff_ne_none
  · exact hmissing

theorem Tmr.holdsBuffer_eq_any (t : Tmr) (x : BufferId) :
    t.holdsBuffer x = t.writing.any fun w => w.holds && w.buffer == x := by
  unfold Tmr.holdsBuffer
  cases t.writing <;> rfl

theorem State.takeExpiry_eq (s : State) :
    s.takeExpiry =
      if s.sau.copy ≠ none then { s with sau := { s.sau with heldExpiry := true } }
      else
        match s.openBuffer with
        | some x => s.closeBuffer x .deadline
        | none => s :=
  ite_congr (propext Option.isSome_iff_ne_none) (fun _ => rfl) fun _ => rfl

/-- Settles O14: the expiry, each step of a closure by its lemma, and what stands after it. -/
theorem deadlineExpiryClosesTheOpenBuffer : Obligations.DeadlineExpiryClosesTheOpenBuffer := by
  refine ⟨fun s hreset => ?_, State.takeExpiry_eq, fun s x c => ?_, fun s x => ⟨rfl, rfl, ?_⟩, fun s x c => ?_⟩
  · show execDeadlineExpiry s = _
    unfold execDeadlineExpiry
    rw [act_of_not_inReset hreset]
    cases s.ctu.deadlineAt <;> rfl
  · intro d u n t
    have ht : s.markClosed x c = t := by
      rw [State.markClosed_eq, countClosure_eq]
    have hrce : (s.markClosed x c).rce = s.rce := by cases x <;> rfl
    rw [State.closeBuffer_eq, State.handOn_eq, hrce, ht]
  · rw [State.freeIfReleased, Tmr.holdsBuffer_eq_any]
  · intro t
    have hkept := KeepsClosures.closeBuffer s x c
    have hsame := SameSurroundings.closeBuffer s x c
    obtain ⟨htag, hcause, hat, hopen⟩ := hkept.desc x
    rw [State.desc_markClosed_same] at htag hcause hat hopen
    exact ⟨fun h => (nomatch hopen h), hcause, hat, htag, hkept.lastClosed, hkept.ctu.trans (by cases x <;> rfl),
      hsame.links, hsame.drp, hsame.dram, hsame.shadow⟩

end Sys2Proof.Machine
end

section
/-! PROOF. The end of a copy (R31, R32, R40), and the ticks of the pace timer and of the CYCLE SYNC input (R55 to
R59). -/

namespace Sys2Proof.Machine

/-! ### Storing (R31) -/

theorem slotSlopes_storeSlot (g : Nat) (xs : List Word) (slots : List (Nat × List Word)) :
    slotSlopes (storeSlot g xs slots) g = xs := by
  have hlookup : (storeSlot g xs slots).lookup g = some xs := by
    fun_induction storeSlot g xs slots with
    | case1 => simp
    | case2 => simp
    | case3 => simp_all
    | case4 h ys rest hlt hne ih => simpa [List.lookup_cons, beq_false_of_ne hne] using ih
  unfold slotSlopes
  rw [hlookup]

theorem SensorStatus.accepted_store (x : SensorStatus) {block : Nat} (hblock : block < 16) (blocks : Nat) (last : Bool)
    (b : Nat) :
    (x.store block blocks last).accepted.getLsbD b = (x.accepted.getLsbD b || decide (b = block)) := by
  show (x.accepted ||| (1#16 <<< block)).getLsbD b = _
  rw [BitVec.getLsbD_or, BitVec.getLsbD_shiftLeft, BitVec.getLsbD_one]
  congr 1
  rw [Bool.eq_iff_iff]
  simp
  omega

theorem allAccepted_iff (accepted : BitVec 16) (blocks : Nat) :
    allAccepted accepted blocks = true ↔ ∀ b, b < blocks → accepted.getLsbD b = true := by
  simp [allAccepted]

theorem SensorStatus.complete_store_iff (x : SensorStatus) (block blocks : Nat) (last : Bool) :
    (x.store block blocks last).complete = true ↔
      x.complete = true ∨ ∀ b, b < blocks → (x.store block blocks last).accepted.getLsbD b = true := by
  rw [← allAccepted_iff]
  exact Bool.or_eq_true_iff

theorem packetBlock_lt (ws : List Word) : packetBlock ws < 16 := Nat.mod_lt _ (by decide)

theorem State.buffer_storeBlock_same (s : State) (c : Copy) (ws : List Word) :
    (s.storeBlock c ws).buffer c.buffer =
      { slots := storeSlot c.global (blockSlopes (packetPayload ws)) (s.buffer c.buffer).slots
        desc := { s.desc c.buffer with
          ready := (s.desc c.buffer).ready ++ [c.global]
          markers := (s.desc c.buffer).markers + markerCount (packetPayload ws)
          sensors := (s.desc c.buffer).sensors.set c.link.val
            ((s.desc c.buffer).sensors[c.link].store (packetBlock ws) (s.link c.link).entry.blocks (packetEnd ws))
            c.link.isLt } } :=
  State.buffer_updBuffer_same _ _ _

/-! ### Finishing (R40) -/

theorem State.allComplete_iff (s : State) (x : BufferId) :
    s.allComplete x = true ↔
      ∀ l : Link, (s.link l).entry.enabled = true → ((s.desc x).sensors[l]).complete = true := by
  simp only [State.allComplete, List.all_eq_true, List.mem_finRange, true_implies, Bool.or_eq_true,
    Bool.not_eq_true']
  exact forall_congr' fun l => by
    rw [Classical.or_iff_not_imp_left, Bool.not_eq_false]

theorem State.allFinished_iff (s : State) (x : BufferId) :
    s.allFinished x = true ↔
      ∀ l : Link, (s.link l).entry.enabled = true →
        ((s.desc x).sensors[l]).complete = true ∨ ((s.desc x).sensors[l]).endSeen = true := by
  simp only [State.allFinished, List.all_eq_true, List.mem_finRange, true_implies, Bool.or_eq_true,
    Bool.not_eq_true', SensorStatus.finished]
  exact forall_congr' fun l => by
    rw [Classical.or_iff_not_imp_left, Bool.not_eq_false]

/-- Settles O13: the parts of the copy's end, and the finishing of the frame. -/
theorem copyEndStoresTheBlock : Obligations.CopyEndStoresTheBlock := by
  refine ⟨fun s hreset hcopy => ?_, fun s c hreset hcopy => ?_, fun s x => ?_⟩
  · refine (act_of_not_inReset hreset State.endCopy).trans ?_
    rw [State.endCopy_of_none hcopy]
  · intro ws p u v w
    have hexec : exec .copyEnd s = .next s.endCopy.settle := act_of_not_inReset hreset State.endCopy
    have hbuffer : p.buffer c.buffer = _ := s.buffer_storeBlock_same c ws
    have hsame : (p.desc c.buffer).sensors[c.link] = (s.desc c.buffer).sensors[c.link].store (packetBlock ws)
        (s.link c.link).entry.blocks (packetEnd ws) := by
      unfold State.desc
      rw [hbuffer]
      exact Vector.getElem_set_self c.link.isLt
    refine ⟨?_, rfl, State.buffer_updBuffer_of_ne s c.buffer.other_ne _, ?_, ?_, ?_, fun b => ?_, ?_, ?_,
      fun j hj => ?_⟩
    · rw [hexec, State.endCopy_of_some hcopy]
      rfl
    · rw [hbuffer]
      exact slotSlopes_storeSlot _ _ _
    · unfold State.desc
      rw [hbuffer]
      rfl
    · unfold State.desc
      rw [hbuffer]
      rfl
    · rw [hsame]
      exact SensorStatus.accepted_store _ (packetBlock_lt ws) _ _ b
    · rw [hsame]
      rfl
    · rw [hsame]
      exact SensorStatus.complete_store_iff _ _ _ _
    · unfold State.desc
      rw [hbuffer]
      exact Vector.getElem_set_ne c.link.isLt j.isLt fun heq => hj (Fin.ext heq.symm)
  · refine ite_congr (propext (and_congr_right fun _ => s.allFinished_iff x)) (fun _ => ?_) fun _ => rfl
    exact congrArg (s.closeBuffer x) (ite_congr (propext (s.allComplete_iff x)) (fun _ => rfl) fun _ => rfl)

/-! ### Ticks -/

/-- Settles O15: the branches of a tick, and the commands that bring one. -/
theorem ticksAreLateEmptyOrAttach : Obligations.TicksAreLateEmptyOrAttach := by
  refine ⟨fun u => ?_, fun s hreset => ?_, fun s e hreset => ?_, fun c p => ⟨rfl, fun q => ?_⟩⟩
  · refine ite_congr rfl (fun _ => ite_congr rfl (fun _ => rfl) fun _ => ?_) fun _ => rfl
    unfold State.oldestWaiting
    rfl
  · show execPaceTick s = _
    unfold execPaceTick
    rw [act_of_not_inReset hreset]
    cases s.ctu.paceAt <;> rfl
  · show execCycleSyncEdge e s = _
    unfold execCycleSyncEdge
    rw [act_of_not_inReset hreset]
    cases e <;> rfl
  · exact decide_eq_true_iff

end Sys2Proof.Machine
end

section
/-! PROOF. Reading back what was written to the stacked DRAM, and the end of a write burst (R64, R65, R68). -/

namespace Sys2Proof.Machine

/-! ### Bytes -/

/-- Filtering by key leaves a key's value where the key passes. -/
theorem lookup_filter_key {β : Type} (p : Nat → Bool) (m : List (Nat × β)) (a : Nat) :
    (m.filter fun c => p c.1).lookup a = if p a then m.lookup a else none := by
  induction m with
  | nil => simp
  | cons c m ih =>
    obtain ⟨k, v⟩ := c
    by_cases hk : a = k
    · subst hk
      by_cases hp : p a
      · simp [hp]
      · simp [hp, ih]
    · have hne : (a == k) = false := beq_false_of_ne hk
      by_cases hp : p k
      · simp only [List.filter_cons, hp, if_true, List.lookup_cons, hne, ih]
      · simp only [List.filter_cons, hp, List.lookup_cons, hne, ih, Bool.false_eq_true, if_false]

theorem Memory.lookup_cellsFrom (base : Nat) (bs : List Byte) (a : Nat) :
    (Memory.cellsFrom base bs).lookup a = if base ≤ a then bs[a - base]? else none := by
  induction bs generalizing base with
  | nil => simp [Memory.cellsFrom]
  | cons b bs ih =>
    rw [Memory.cellsFrom, List.lookup_cons]
    by_cases hbase : a = base
    · subst hbase
      simp
    · rw [beq_false_of_ne hbase]
      dsimp only
      rw [ih]
      by_cases hle : base + 1 ≤ a
      · rw [if_pos hle, if_pos (by omega), show a - base = (a - (base + 1)) + 1 by omega, List.getElem?_cons_succ]
      · rw [if_neg hle, if_neg (by omega)]

/-- A byte written is read back, and every other byte reads as before. -/
theorem Memory.byteAt_writeBytes (m : List Host.Cell) (base : Nat) (bs : List Byte) (a : Nat) :
    Memory.byteAt (Memory.writeBytes m base bs) a =
      if base ≤ a ∧ a < base + bs.length then bs[a - base]? else Memory.byteAt m a := by
  have hbelow := lookup_filter_key (fun k => decide (k < base)) m a
  have habove := lookup_filter_key (fun k => decide (base + bs.length ≤ k)) m a
  unfold Memory.byteAt Memory.writeBytes
  rw [List.lookup_append, List.lookup_append, hbelow, habove, Memory.lookup_cellsFrom]
  by_cases hlt : a < base
  · simp only [hlt, decide_true, if_true, if_neg (Nat.not_le.mpr hlt), show ¬(base ≤ a ∧ a < base + bs.length) by omega,
      show ¬(base + bs.length ≤ a) by omega, decide_false, if_false, Bool.false_eq_true, Option.or_none]
  have hle : base ≤ a := Nat.not_lt.mp hlt
  by_cases hin : a < base + bs.length
  · have hsome : bs[a - base]? = some bs[a - base] := List.getElem?_eq_getElem (by omega)
    simp only [hlt, hle, hin, and_self, decide_false, if_true, if_false, Bool.false_eq_true, Option.none_or, hsome,
      Option.some_or]
  · have hnone : bs[a - base]? = none := List.getElem?_eq_none (by omega)
    simp only [hlt, hle, hin, and_false, decide_false, if_true, if_false, Bool.false_eq_true, Option.none_or, hnone,
      show base + bs.length ≤ a by omega, decide_true]

/-! ### Words -/

theorem getElem?_bytesOf (ws : List Word) (j : Nat) :
    (bytesOf ws)[2 * j]? = ws[j]?.map (·.extractLsb' 8 8) ∧
      (bytesOf ws)[2 * j + 1]? = ws[j]?.map (·.extractLsb' 0 8) := by
  induction ws generalizing j with
  | nil => exact ⟨rfl, rfl⟩
  | cons w ws ih =>
    have hcons : bytesOf (w :: ws) = w.extractLsb' 8 8 :: w.extractLsb' 0 8 :: bytesOf ws := rfl
    rw [hcons]
    cases j with
    | zero => exact ⟨rfl, rfl⟩
    | succ j => exact ih j

theorem extractLsb'_append_bytes (w : Word) : w.extractLsb' 8 8 ++ w.extractLsb' 0 8 = w := by
  refine BitVec.eq_of_getLsbD_eq fun i hi => ?_
  rw [BitVec.getLsbD_append, BitVec.getLsbD_extractLsb', BitVec.getLsbD_extractLsb']
  by_cases hlow : i < 8
  · simp [hlow]
  · simp only [hlow, if_false, show i - 8 < 8 by omega, decide_true, Bool.true_and, show 8 + (i - 8) = i by omega]

theorem burstWords_of_length {ws : List Word} (h : ws.length = 256) : burstWords ws = ws := by
  rw [burstWords, List.take_append_of_le_length (by omega), List.take_of_length_le (by omega)]

/-- The words of a burst are read back as they were written. -/
theorem readWords_writeBurst (m : List Host.Cell) (place n : Nat) {ws : List Word} (h : ws.length = 256) {j : Nat}
    (hj : j < 256) : (readWords (Memory.writeBurst m place ws) place n)[j]? = ws[j]? := by
  obtain ⟨hhigh, hlow⟩ := getElem?_bytesOf ws j
  have hlen : (bytesOf ws).length = 512 := by rw [bytesOf_length, h]
  have hws : ws[j]? = some ws[j] := List.getElem?_eq_getElem (by omega)
  have hbyte : ∀ i, i < 512 → Memory.byteAt (Memory.writeBurst m place ws) (512 * place + i) = (bytesOf ws)[i]? := by
    intro i hi
    rw [Memory.writeBurst, burstWords_of_length h, Memory.byteAt_writeBytes, if_pos (by omega),
      Nat.add_sub_cancel_left]
  have hword : Memory.wordAt (Memory.writeBurst m place ws) place j = some ws[j] := by
    unfold Memory.wordAt
    rw [hbyte (2 * j) (by omega), Nat.add_assoc, hbyte (2 * j + 1) (by omega), hhigh, hlow, hws]
    exact congrArg some (extractLsb'_append_bytes _)
  rw [readWords, List.getElem?_map, List.getElem?_range hj, Option.map_some, hword, hws]
  rfl

/-! ### The end of a burst -/

theorem exec_burstEnd_of_port {s : State} {b : Burst} (hreset : s.inReset = false) (hport : s.mmc.port = some b)
    (hplace : b.place < 1048576) (first : Bool) (errors : List BitError) :
    exec (.burstEnd first errors) s = .next (s.endBurst first errors).settle := by
  show execBurstEnd first errors s = _
  unfold execBurstEnd
  rw [hreset, hport]
  exact (if_neg (Nat.not_le.mpr hplace)).trans (act_of_not_inReset hreset _)

theorem clearWeak_eq (weak : List (Nat × EccResult)) (place : Nat) :
    clearWeak weak place = weak.filter fun e => decide (e.1 < 64 * place ∨ 64 * place + 64 ≤ e.1) := by
  unfold clearWeak
  exact congrArg (weak.filter ·) (funext fun e => (Bool.decide_or _ _).symm)

theorem State.endBurst_of_write {s : State} {b : Burst} {ws : List Word} (hport : s.mmc.port = some b)
    (hwrite : b.write = some ws) (first : Bool) (errors : List BitError) :
    s.endBurst first errors = ((s.updMmc (·.writeBurst b.place ws)).freePort first).writeEnded b := by
  unfold State.endBurst
  rw [hport]
  dsimp only
  rw [hwrite]

/-- Settles O19: the end of the burst, and the bytes and words read back. -/
theorem writeBurstEndStoresItsWords : Obligations.WriteBurstEndStoresItsWords := by
  refine ⟨fun s b ws first errors hreset hport hwrite hplace => ?_,
    fun m base bs a _ => Memory.byteAt_writeBytes m base bs a,
    fun m place n j ws _ hlen hj => readWords_writeBurst m place n hlen hj⟩
  intro u v
  rw [exec_burstEnd_of_port hreset hport hplace, State.endBurst_of_write hport hwrite]
  have hv : (s.updMmc (·.writeBurst b.place ws)).freePort first = v := by
    simp only [v, u, ← clearWeak_eq]
    rfl
  rw [hv]
  unfold State.writeEnded
  cases b.who <;> rfl

end Sys2Proof.Machine
end

section
/-! PROOF. The arbiter's grants (R67), and the end of a read burst with what each requester does (R63, R64, R66, R90
to R96). -/

namespace Sys2Proof.Machine

/-! ### Grants (R67) -/

theorem State.presentRow_frame (s : State) :
    s.presentRow = { s with
      mmc := { s.mmc with engineWaits := s.presentRow.mmc.engineWaits }
      rce := { s.rce with nextRow := s.presentRow.rce.nextRow } } := by
  unfold State.presentRow
  split
  · split <;> rfl
  · rfl

theorem State.presentRecord_frame (s : State) :
    s.presentRecord = { s with
      mmc := { s.mmc with recorderWaits := s.presentRecord.mmc.recorderWaits }
      tmr := { s.tmr with writing := s.presentRecord.tmr.writing } } := by
  unfold State.presentRecord
  split
  · split <;> rfl
  · rfl

theorem State.presentHost_of_exec {s : State} {r : Request} {b : Burst} {todo : List Burst} {left : Nat}
    {got : List Word} {kind : TransferKind} (h : s.clp.inExec = some ⟨r, .transfer (b :: todo) left got kind⟩) :
    s.presentHost = { s with
      mmc := { s.mmc with hostWaits := some b }
      clp := { s.clp with inExec := some ⟨r, .transfer todo left got kind⟩ } } := by
  unfold State.presentHost
  rw [h]
  show State.setJob _ _ = _
  rw [State.setJob_eq, State.updMmc_clp, h]
  rfl

/-- Settles O18: the grant in the order of R67, and what each requester's next burst changes. -/
theorem burstGrantGoesByPriority : Obligations.BurstGrantGoesByPriority := by
  refine ⟨fun s hreset => act_of_not_inReset hreset State.grantBurst, fun s => ?_, fun s => ?_,
    fun s => ⟨s.presentRow_frame, s.presentRecord_frame⟩⟩
  · exact ite_congr (propext Option.isSome_iff_ne_none) (fun _ => rfl) fun _ => rfl
  · split
    · exact State.presentHost_of_exec ‹_›
    · rename_i hnot
      unfold State.presentHost
      split
      · exact absurd ‹_› (hnot _ _ _ _ _ _)
      · rfl

/-! ### The checks of a read (R64, R66) -/

/-- The end of a read burst, up to the requester's act. -/
def State.readChecked (s : State) (b : Burst) (errors : List BitError) : State :=
  (({ s.updMmc fun m => { m with weak := addErrors s.mmc.dram b.place s.mmc.weak errors } with
    drawn := s.drawn + 1 } : State).reportRead b
      (eccResults s.mmc.dram (addErrors s.mmc.dram b.place s.mmc.weak errors) b.place s.drawn)).updMmc fun m =>
        { m with port := none }

theorem State.endBurst_of_read {s : State} {b : Burst} (hport : s.mmc.port = some b) (hwrite : b.write = none)
    (first : Bool) (errors : List BitError) :
    s.endBurst first errors =
      State.readEnded (if first then (s.readChecked b errors).grantBurst else s.readChecked b errors) b
        ((eccResults s.mmc.dram (addErrors s.mmc.dram b.place s.mmc.weak errors) b.place s.drawn).contains
          .uncorrectable) (readWords s.mmc.dram b.place s.drawn) := by
  unfold State.endBurst
  rw [hport]
  dsimp only
  rw [hwrite]
  rfl

theorem State.readChecked_eq (s : State) (b : Burst) (errors : List BitError) :
    s.readChecked b errors =
      let weak := addErrors s.mmc.dram b.place s.mmc.weak errors
      let results := eccResults s.mmc.dram weak b.place s.drawn
      let t : State := { s with
        drawn := s.drawn + 1
        mmc := { s.mmc with
          port := none
          weak := weak
          corrected := s.mmc.corrected + BitVec.ofNat 32 (results.count .corrected)
          uncorrectable := s.mmc.uncorrectable + (if results.contains .uncorrectable = true then 1 else 0) } }
      if results.contains .uncorrectable = true then t.raise (.memoryError b.who b.place b.bank b.block b.row)
      else t := by
  unfold State.readChecked State.reportRead
  dsimp only
  generalize eccResults _ _ _ _ = results
  generalize results.contains .uncorrectable = bad
  cases bad with
  | true =>
    rfl
  | false =>
    have hzero (n : Count) : n + 0 = n := BitVec.add_zero n
    simp only [Bool.false_eq_true, if_false, hzero]
    rfl

/-- Settles O20: the fault, the idle port, and the end of a read. -/
theorem readBurstEndCountsItsErrors : Obligations.ReadBurstEndCountsItsErrors := by
  refine ⟨fun s b first errors hreset hport hplace => ?_, fun s first errors hreset hport => ?_,
    fun s b first errors hreset hport hwrite hplace => ?_⟩
  · show execBurstEnd first errors s = _
    unfold execBurstEnd
    rw [hreset, hport]
    exact if_pos hplace
  · show execBurstEnd first errors s = _
    unfold execBurstEnd
    rw [hreset, hport]
    exact act_of_not_inReset hreset id
  · intro weak results words bad t u v
    rw [exec_burstEnd_of_port hreset hport hplace, State.endBurst_of_read hport hwrite, State.readChecked_eq]
    show Host.Outcome.next (State.settle (State.readEnded v b bad words)) = _
    clear_value v
    unfold State.readEnded
    cases b.who <;> rfl

end Sys2Proof.Machine
end

section
/-! PROOF. The engine at the end of a row: the row sum gained, the residuals formed and offered, and the engine's
return to IDLE (R90 to R96). -/

namespace Sys2Proof.Machine

/-! ### A good row -/

/-- The checks of a burst whose words are written and hold no error all pass (R64). -/
theorem eccResults_of_good {m : List Host.Cell} {weak : List (Nat × EccResult)} {place : Nat}
    (h : ∀ i, i < 64 → Memory.eccWritten m place i = true ∧ weak.lookup (64 * place + i) = none) (drawn : Nat) :
    eccResults m weak place drawn = List.replicate 64 .passed := by
  refine List.eq_replicate_iff.mpr ⟨by simp [eccResults], fun r hr => ?_⟩
  obtain ⟨i, hi, rfl⟩ := List.mem_map.mp hr
  obtain ⟨hwritten, hnone⟩ := h i (List.mem_range.mp hi)
  rw [eccOf, if_pos hwritten, hnone]
  rfl

/-- The end of a good read: the port is free, and nothing else has changed. -/
theorem State.readChecked_of_good {s : State} {b : Burst}
    (h : ∀ i, i < 64 → Memory.eccWritten s.mmc.dram b.place i = true ∧
      s.mmc.weak.lookup (64 * b.place + i) = none) :
    s.readChecked b [] = { s with mmc := { s.mmc with port := none }, drawn := s.drawn + 1 } := by
  have hresults : eccResults s.mmc.dram (addErrors s.mmc.dram b.place s.mmc.weak []) b.place s.drawn =
      List.replicate 64 .passed := eccResults_of_good h s.drawn
  have hbad : ((List.replicate 64 EccResult.passed).contains .uncorrectable) = false := by decide
  have hcount : (List.replicate 64 EccResult.passed).count .corrected = 0 := by decide
  rw [State.readChecked_eq]
  dsimp only
  rw [hresults, hbad, hcount]
  have hzero (n : Count) : n + 0 = n := BitVec.add_zero n
  simp only [Bool.false_eq_true, if_false, hzero, BitVec.add_zero]
  rfl

theorem State.readChecked_rce (s : State) (b : Burst) (errors : List BitError) :
    (s.readChecked b errors).rce = s.rce := by
  unfold State.readChecked State.reportRead
  dsimp only
  split <;> rfl

theorem State.readEnded_of_engine {b : Burst} (h : b.who = .engine) (s : State) (bad : Bool) (ws : List Word) :
    s.readEnded b bad ws = s.engineBurstEnded b bad ws := by
  unfold State.readEnded
  rw [h]

/-- Whose row it was, and what that requester does with it. -/
theorem State.engineBurstEnded_eq (s : State) (b : Burst) (bad : Bool) (ws : List Word) :
    s.engineBurstEnded b bad ws =
      match s.rce.state, s.rce.attached, s.rce.block with
      | .draining, _, _ => if s.enginePort = true then s else s.engineLetsGo.enterIdle
      | .busy, some x, some g =>
        if b.dropped = true then s else if bad = true then s.memorySkip x else s.addRow x g b.row ws
      | _, _, _ => s := rfl

theorem State.engineBurstEnded_of_busy {s : State} {b : Burst} {x : BufferId} {g : Nat}
    (hstate : s.rce.state = .busy) (hattached : s.rce.attached = some x) (hblock : s.rce.block = some g)
    (hdropped : b.dropped = false) (bad : Bool) (ws : List Word) :
    s.engineBurstEnded b bad ws = if bad = true then s.memorySkip x else s.addRow x g b.row ws := by
  unfold State.engineBurstEnded
  rw [hstate, hattached, hblock, hdropped]
  rfl

/-- The state with row sum `row` raised by `v`. -/
def State.sumRaised (s : State) (row : Nat) (v : Int) : State :=
  s.updRce fun e => { e with sums := mapTable (fun i p => if i = row then p + v else p) e.sums }

theorem State.addRow_eq (s : State) (x : BufferId) (g row : Nat) (ws : List Word) :
    s.addRow x g row ws =
      let t := s.sumRaised row (dotProduct (slotSlopes (s.buffer x).slots g) ws)
      if row + 1 = s.actuators then ((t.updRce fun e => { e with block := none }).continueCycle).offer else t := rfl

theorem mapTable_eq_mapIdx {n : Nat} {α β : Type} (f : Nat → α → β) (v : Vector α n) : mapTable f v = v.mapIdx f := by
  ext i hi
  rw [mapTable_getElem, Vector.getElem_mapIdx]

/-! ### Residuals (R93) -/

theorem clampInt_eq_max_min {lo hi : Int} (h : lo ≤ hi) (x : Int) : clampInt lo hi x = max lo (min hi x) := by
  unfold clampInt
  split
  · omega
  · split <;> omega

theorem residualOf_eq (k : Nat) (p : Int) :
    residualOf k p = max (-2147483648) (min 2147483647 (roundDiv p (2 ^ k))) :=
  clampInt_eq_max_min (by decide) _

theorem residualSaturates_eq (k : Nat) (p : Int) :
    residualSaturates k p =
      decide (roundDiv p (2 ^ k) < -2147483648 ∨ 2147483647 < roundDiv p (2 ^ k)) := by
  have hq : residualQuotient k p = roundDiv p (2 ^ k) := rfl
  rw [residualSaturates, residualOf_eq, hq, Bool.eq_iff_iff, bne_iff_ne, decide_eq_true_iff]
  generalize roundDiv p (2 ^ k) = q
  omega

theorem State.formResiduals_eq (s : State) :
    s.formResiduals = { s with
      rce := { s.rce with
        state := .delivering, block := none
        residuals := (s.rce.sums.toList.take s.actuators).map fun p =>
          max (-2147483648) (min 2147483647 (roundDiv p (2 ^ s.rce.shift.getD 0))) }
      lsv := { s.lsv with counts := { s.lsv.counts with
        residualSaturations := s.lsv.counts.residualSaturations + BitVec.ofNat 32
          ((s.rce.sums.toList.take s.actuators).countP fun p =>
            decide (roundDiv p (2 ^ s.rce.shift.getD 0) < -2147483648 ∨
              2147483647 < roundDiv p (2 ^ s.rce.shift.getD 0))) } } } := by
  rw [← funext (residualOf_eq (s.rce.shift.getD 0)), ← funext (residualSaturates_eq (s.rce.shift.getD 0))]
  rfl

/-! ### The offer (R94) -/

theorem State.offer_of_offered {s : State} {x : BufferId} (hstate : s.rce.state = .delivering)
    (hattached : s.rce.attached = some x) (hpass : s.tfu.pass = none) :
    s.offer = (s.passStarted x).engineLetsGo.attachOnIdle := by
  unfold State.offer
  rw [hstate, hattached, hpass]
  rfl

theorem State.offer_of_not_offered {s : State}
    (h : s.rce.state ≠ .delivering ∨ s.rce.attached = none ∨ s.tfu.pass ≠ none) : s.offer = s := by
  unfold State.offer
  split
  · rename_i hstate hattached hpass
    simp [hstate, hattached, hpass] at h
  · rfl

/-- Settles O21: a good row by its checks, and each of the engine's operations by its equation. -/
theorem engineRowAddsItsDotProduct : Obligations.EngineRowAddsItsDotProduct := by
  refine ⟨fun s b x g hreset hport hwho hwrite hdropped hplace hstate hattached hblock hgood => ?_,
    fun s x g row ws => ?_, fun s b bad ws => s.engineBurstEnded_eq b bad ws, fun s => s.formResiduals_eq,
    fun s x k p hattached hbank hat => ?_, fun s h => State.offer_of_not_offered h, fun s => ?_⟩
  · intro product
    have hread := State.readChecked_of_good hgood
    have hresults := eccResults_of_good hgood s.drawn
    have hbad : (eccResults s.mmc.dram (addErrors s.mmc.dram b.place s.mmc.weak []) b.place s.drawn).contains
        .uncorrectable = false := by
      rw [show eccResults _ (addErrors _ _ _ []) _ _ = _ from hresults]
      decide
    have hend : s.endBurst false [] = (s.readChecked b []).addRow x g b.row (readWords s.mmc.dram b.place s.drawn) := by
      have hrce := s.readChecked_rce b []
      rw [State.endBurst_of_read hport hwrite, hbad, State.readEnded_of_engine hwho]
      exact State.engineBurstEnded_of_busy (s := s.readChecked b []) (hrce ▸ hstate) (hrce ▸ hattached)
        (hrce ▸ hblock) hdropped false _
    refine ⟨(s.readChecked b []).sumRaised b.row product, ?_, fun i p q hp hq => ?_, ?_⟩
    · rw [exec_burstEnd_of_port hreset hport hplace, hend, State.addRow_eq, hread]
      rfl
    · rw [hread] at hq
      simp only [State.sumRaised, State.updRce_rce, mapTable_toList, List.getElem?_mapIdx, hp, Option.map_some,
        Option.some.injEq] at hq
      exact hq.symm
    · rw [hread]
      rfl
  · intro product t
    have ht : s.sumRaised row product = t := by
      unfold State.sumRaised
      rw [State.updRce, mapTable_eq_mapIdx]
    rw [State.addRow_eq, ← ht]
    rfl
  · intro values pass t
    by_cases hoffers : s.rce.state = .delivering ∧ s.tfu.pass = none
    · have hpass : s.passOffered x = pass := by
        simp only [pass, State.passOffered, hbank, hat]
        rfl
      rw [if_pos hoffers, State.offer_of_offered hoffers.1 hattached hoffers.2, State.passStarted, hpass]
      rfl
    · rw [if_neg hoffers]
      refine State.offer_of_not_offered ?_
      exact (Decidable.not_and_iff_not_or_not.mp hoffers).imp_right .inr
  · intro t
    cases hx : s.rce.attached with
    | none => exact State.engineLetsGo_of_none hx
    | some x =>
      unfold State.engineLetsGo
      rw [hx]
      rfl

end Sys2Proof.Machine
end

section
/-! PROOF. A cycle skipped for MEMORY, and what of its outcome stands while the engine stops, returns to IDLE and
attaches again (R94 to R98, R126). -/

namespace Sys2Proof.Machine

/-! ### While an outcome is recorded -/

/-- Between `s` and `t` only the recorder with its waiting burst and the notice list differ. -/
def RecorderFrame (s t : State) : Prop :=
  t = { s with
    mmc := { s.mmc with recorderWaits := t.mmc.recorderWaits }
    tmr := t.tmr
    clp := { s.clp with notices := t.clp.notices } }

namespace RecorderFrame

variable {s t u : State}

theorem trans (h : RecorderFrame s t) (k : RecorderFrame t u) : RecorderFrame s u := Eq.trans k (by rw [h])

theorem ifElse {p : Prop} [Decidable p] (ht : RecorderFrame s t) (hu : RecorderFrame s u) :
    RecorderFrame s (if p then t else u) := by
  split
  · exact ht
  · exact hu

theorem lsv (h : RecorderFrame s t) : t.lsv = s.lsv := by rw [h]
theorem port (h : RecorderFrame s t) : t.mmc.port = s.mmc.port := by rw [h]

theorem updTmr (s : State) (f : Tmr → Tmr) : RecorderFrame s (s.updTmr f) := rfl

theorem raise (s : State) (p : NoticePayload) : RecorderFrame s (s.raise p) := by
  unfold RecorderFrame
  rw [State.raise_eq]

theorem presentRecord (s : State) : RecorderFrame s s.presentRecord := by
  rw [s.presentRecord_frame]
  rfl

theorem startRecord (s : State) (x : BufferId) (r : CycleReport) : RecorderFrame s (s.startRecord x r) := by
  unfold State.startRecord
  split
  · exact (updTmr s _).trans (presentRecord _)
  · rfl

theorem recordDue (s : State) (x : BufferId) (r : CycleReport) : RecorderFrame s (s.recordDue x r) := by
  unfold State.recordDue
  split
  · refine ifElse (updTmr s _) (ifElse (startRecord s x r) (ifElse (updTmr s _) ?_))
    split
    · exact updTmr s _
    · exact ifElse (updTmr s _) ((updTmr s _).trans (startRecord _ x r))
  · rfl

theorem recordOutcome (s : State) (x : BufferId) (r : CycleReport) : RecorderFrame s (s.recordOutcome x r) := by
  unfold State.recordOutcome
  split
  · exact ifElse (updTmr s _) ((updTmr s _).trans (recordDue _ x r))
  · rfl

theorem freeze (s : State) (c : TripCause) (f : Word) : RecorderFrame s (s.freeze c f) := by
  unfold State.freeze
  split
  · exact ifElse ((updTmr s _).trans (raise _ _)) rfl
  · rfl

end RecorderFrame

theorem State.superviseSkip_lsv (s : State) (tag : Word) (c : SkipCause) :
    (s.superviseSkip tag c).lsv.skips = satSucc s.lsv.skips ∧
      (s.superviseSkip tag c).lsv.counts = countSkip c s.lsv.counts := by
  unfold State.superviseSkip
  dsimp only
  split <;> exact ⟨rfl, rfl⟩

theorem State.superviseSkip_port (s : State) (tag : Word) (c : SkipCause) :
    (s.superviseSkip tag c).mmc.port = s.mmc.port := by
  unfold State.superviseSkip
  dsimp only
  split <;> rfl

/-- A skip is taken by the supervisor, then by the recorder. -/
theorem RecorderFrame.giveSkip (s : State) (x : BufferId) (c : SkipCause) (r : CycleReport) :
    RecorderFrame ((s.updDesc x fun d => { d with outcome := some .skipped, skip := some c }).superviseSkip
      (s.desc x).tag c) (s.giveSkip x c r) :=
  ifElse ((recordOutcome _ x r).trans (freeze _ _ _)) (recordOutcome _ x r)

theorem State.giveSkip_port (s : State) (x : BufferId) (c : SkipCause) (r : CycleReport) :
    (s.giveSkip x c r).mmc.port = s.mmc.port := by
  rw [(RecorderFrame.giveSkip s x c r).port, State.superviseSkip_port]
  rfl

/-- A skip raises the consecutive skip count and its cause's count (R126). -/
theorem State.giveSkip_lsv (s : State) (x : BufferId) (c : SkipCause) (r : CycleReport) :
    (s.giveSkip x c r).lsv.skips = satSucc s.lsv.skips ∧
      (s.giveSkip x c r).lsv.counts = countSkip c s.lsv.counts := by
  rw [(RecorderFrame.giveSkip s x c r).lsv]
  exact State.superviseSkip_lsv _ _ c

/-! ### What the engine's return to IDLE keeps -/

/-- The same outcome and skip cause, and the ready queue empty if it was. -/
def Descriptor.SameOutcome (d d' : Descriptor) : Prop :=
  d'.outcome = d.outcome ∧ d'.skip = d.skip ∧ (d.ready = [] → d'.ready = [])

/-- Between `s` and `t` no outcome was given and no apply made but a pending one. -/
structure KeepsOutcomes (s t : State) : Prop where
  desc : ∀ y, (s.desc y).SameOutcome (t.desc y)
  skips : t.lsv.skips = s.lsv.skips
  skippedMemory : t.lsv.counts.skippedMemory = s.lsv.counts.skippedMemory
  applied : s.tfu.applyPending = false → t.tfu.applyPending = false ∧ t.tfu.active = s.tfu.active

namespace KeepsOutcomes

variable {s t u : State}

theorem of_same (hsau : t.sau = s.sau) (hlsv : t.lsv = s.lsv)
    (htfu : t.tfu.applyPending = s.tfu.applyPending ∧ t.tfu.active = s.tfu.active) : KeepsOutcomes s t where
  desc y := by
    have hdesc : t.desc y = s.desc y := by
      cases y <;> (unfold State.desc State.buffer; rw [hsau])
    rw [hdesc]
    exact ⟨rfl, rfl, id⟩
  skips := by rw [hlsv]
  skippedMemory := by rw [hlsv]
  applied h := ⟨htfu.1.trans h, htfu.2⟩

theorem refl (s : State) : KeepsOutcomes s s := of_same rfl rfl ⟨rfl, rfl⟩

theorem trans (h : KeepsOutcomes s t) (k : KeepsOutcomes t u) : KeepsOutcomes s u where
  desc y := by
    obtain ⟨hout, hskip, hready⟩ := h.desc y
    obtain ⟨kout, kskip, kready⟩ := k.desc y
    exact ⟨kout.trans hout, kskip.trans hskip, fun hs => kready (hready hs)⟩
  skips := k.skips.trans h.skips
  skippedMemory := k.skippedMemory.trans h.skippedMemory
  applied hs := by
    obtain ⟨hpending, hactive⟩ := h.applied hs
    obtain ⟨kpending, kactive⟩ := k.applied hpending
    exact ⟨kpending, kactive.trans hactive⟩

theorem ifElse {p : Prop} [Decidable p] (ht : KeepsOutcomes s t) (hu : KeepsOutcomes s u) :
    KeepsOutcomes s (if p then t else u) := by
  split
  · exact ht
  · exact hu

theorem updRce (s : State) (f : Rce → Rce) : KeepsOutcomes s (s.updRce f) := of_same rfl rfl ⟨rfl, rfl⟩

theorem updDesc (s : State) (x : BufferId) {f : Descriptor → Descriptor} (hf : (s.desc x).SameOutcome (f (s.desc x))) :
    KeepsOutcomes s (s.updDesc x f) where
  desc y := by
    by_cases hy : y = x
    · subst hy
      rw [State.desc_updDesc_same]
      exact hf
    · rw [State.desc_updDesc_of_ne s hy]
      exact ⟨rfl, rfl, id⟩
  skips := rfl
  skippedMemory := rfl
  applied h := ⟨h, rfl⟩

/-- Counts of blocks and residuals, none of them an outcome. -/
theorem updCounts (s : State) {f : CycleCounts → CycleCounts}
    (hf : (f s.lsv.counts).skippedMemory = s.lsv.counts.skippedMemory) : KeepsOutcomes s (s.updCounts f) where
  desc _ := by
    rw [State.updCounts, State.desc_updLsv]
    exact ⟨rfl, rfl, id⟩
  skips := rfl
  skippedMemory := hf
  applied h := ⟨h, rfl⟩

theorem retire (s : State) (x : BufferId) : KeepsOutcomes s (s.retire x) :=
  ifElse (updDesc s x ⟨rfl, rfl, id⟩) (refl s)

theorem freeIfReleased (s : State) (x : BufferId) : KeepsOutcomes s (s.freeIfReleased x) :=
  ifElse (updDesc s x ⟨rfl, rfl, id⟩) (refl s)

theorem letGo (s : State) (x : BufferId) : KeepsOutcomes s (s.updDesc x Descriptor.letGo) := by
  refine updDesc s x ?_
  unfold Descriptor.letGo
  split <;> exact ⟨rfl, rfl, id⟩

theorem engineLetsGo (s : State) : KeepsOutcomes s s.engineLetsGo := by
  cases hx : s.rce.attached with
  | none =>
    rw [State.engineLetsGo_of_none hx]
    exact updRce s _
  | some x =>
    rw [State.engineLetsGo_of_some hx]
    have hlet := (updRce s Rce.released).trans (letGo _ x)
    exact ifElse (hlet.trans (freeIfReleased _ x)) hlet

theorem engineStops (s : State) : KeepsOutcomes s s.engineStops :=
  ifElse (of_same rfl rfl ⟨rfl, rfl⟩)
    ((of_same rfl rfl ⟨rfl, rfl⟩ : KeepsOutcomes s s.dropEngineBurst).trans (engineLetsGo _))

theorem reportIdle (s : State) : KeepsOutcomes s s.reportIdle := by
  unfold State.reportIdle
  split
  · split
    · exact {
        desc := fun y => by cases y <;> exact ⟨rfl, rfl, id⟩
        skips := rfl
        skippedMemory := rfl
        applied := fun h => ⟨h, rfl⟩ }
    · exact refl s
  · exact refl s

theorem presentRow (s : State) : KeepsOutcomes s s.presentRow := by
  rw [s.presentRow_frame]
  exact of_same rfl rfl ⟨rfl, rfl⟩

theorem formResiduals (s : State) : KeepsOutcomes s s.formResiduals := by
  unfold State.formResiduals
  exact (updRce _ _).trans (updCounts _ rfl)

theorem takeBlocks (x : BufferId) (gs : List Nat) (s : State) (hgs : (s.desc x).ready = [] → gs = []) :
    KeepsOutcomes s (State.takeBlocks x gs s) := by
  induction gs generalizing s with
  | nil =>
    have hready : KeepsOutcomes s (s.updDesc x fun d => { d with ready := [] }) := updDesc s x ⟨rfl, rfl, fun _ => rfl⟩
    rw [State.takeBlocks_nil]
    exact ifElse (hready.trans (updRce _ _)) (hready.trans (formResiduals _))
  | cons g rest ih =>
    have hready : KeepsOutcomes s (s.updDesc x fun d => { d with ready := rest }) :=
      updDesc s x ⟨rfl, rfl, fun hs => nomatch hgs hs⟩
    rw [State.takeBlocks_cons]
    refine ifElse ((hready.trans (updRce _ _)).trans (presentRow _)) ((updCounts s rfl).trans (ih _ fun hs => ?_))
    rw [State.updCounts, State.desc_updLsv] at hs
    exact nomatch hgs hs

theorem continueCycle (s : State) : KeepsOutcomes s s.continueCycle := by
  unfold State.continueCycle
  split
  · exact takeBlocks _ _ s id
  · exact refl s

theorem stagedMade_tfu (s : State) (tag : Word) (h : s.tfu.applyPending = false) :
    (s.stagedMade tag).tfu = s.tfu := by
  unfold State.stagedMade
  rw [if_pos h]
  exact s.makeSwap_tfu _

theorem attach (s : State) (x : BufferId) : KeepsOutcomes s (s.attach x) := by
  have hstaged := StagedFrame.stagedMade s (s.desc x).tag
  have hrelation := updDesc s x (f := fun d => { d with relation := .attached }) ⟨rfl, rfl, id⟩
  have hbegun : KeepsOutcomes s (s.beginCycle x) := by
    rw [s.beginCycle_frame x]
    exact {
      desc := hrelation.desc
      skips := congrArg Lsv.skips hstaged.lsv
      skippedMemory := congrArg (fun v => v.counts.skippedMemory) hstaged.lsv
      applied := fun h => by
        have htfu := stagedMade_tfu s (s.desc x).tag h
        exact ⟨(congrArg Tfu.applyPending htfu).trans h, congrArg Tfu.active htfu⟩ }
  exact hbegun.trans (continueCycle _)

theorem attachOnIdle (s : State) : KeepsOutcomes s s.attachOnIdle := by
  unfold State.attachOnIdle
  split
  · exact attach s _
  · exact refl s

theorem offer (s : State) : KeepsOutcomes s s.offer := by
  unfold State.offer
  split
  · rw [State.takeOffer_eq]
    exact ((of_same rfl rfl ⟨rfl, rfl⟩ : KeepsOutcomes s (s.passStarted _)).trans (engineLetsGo _)).trans
      (attachOnIdle _)
  · exact refl s

theorem enterIdle (s : State) : KeepsOutcomes s s.enterIdle :=
  ((reportIdle s).trans (attachOnIdle _)).trans (offer _)

end KeepsOutcomes

/-! ### An engine that stops with the port free (R95) -/

theorem State.engineLetsGo_rce (s : State) : s.engineLetsGo.rce = s.rce.released := by
  cases hx : s.rce.attached with
  | none =>
    rw [State.engineLetsGo_of_none hx]
    rfl
  | some x =>
    rw [State.engineLetsGo_of_some hx]
    unfold State.freeIfReleased
    split
    · split <;> rfl
    · rfl

theorem State.enginePort_eq_any (s : State) : s.enginePort = s.mmc.port.any fun p => p.who == .engine := by
  unfold State.enginePort
  cases s.mmc.port <;> rfl

/-- A burst dropped goes on transferring (R68). -/
theorem State.enginePort_dropEngineBurst (s : State) : s.dropEngineBurst.enginePort = s.enginePort := by
  rw [State.enginePort_eq_any, State.enginePort_eq_any, State.dropEngineBurst, State.updMmc_mmc]
  cases s.mmc.port with
  | none => rfl
  | some p =>
    by_cases hwho : p.who = .engine <;> simp [hwho]

theorem State.engineStops_of_port_free {s : State} (h : s.mmc.port = none) :
    s.engineStops = s.dropEngineBurst.engineLetsGo := by
  refine if_neg ?_
  rw [State.enginePort_dropEngineBurst, State.enginePort_eq_any, h]
  exact Bool.false_ne_true

theorem State.idleChoice_of_batch {s : State} (h : s.ctu.order = .batch) (htrigger : s.ctu.trigger ≠ .immediate) :
    s.idleChoice = none := by
  simp [State.idleChoice, h, htrigger]

theorem State.reportIdle_rce (s : State) : s.reportIdle.rce = s.rce := by
  unfold State.reportIdle
  split
  · split <;> rfl
  · rfl

/-- The report alone follows where the trigger waits for a tick. -/
theorem State.enterIdle_of_batch {s : State} (hidle : s.rce.state = .idle) (h : s.ctu.order = .batch)
    (htrigger : s.ctu.trigger ≠ .immediate) : s.enterIdle = s.reportIdle := by
  have hctu := (KeepsClosures.reportIdle s).ctu
  have hrce := s.reportIdle_rce
  have hattach : s.reportIdle.attachOnIdle = s.reportIdle := by
    rw [State.attachOnIdle_eq, State.idleChoice_of_batch (hctu ▸ h) (hctu ▸ htrigger)]
    rfl
  rw [State.enterIdle, hattach]
  exact State.offer_of_ne (by rw [hrce, hidle]; exact fun hne => nomatch hne)

/-! ### An uncorrectable row -/

theorem State.readChecked_frame (s : State) (b : Burst) (errors : List BitError) :
    s.readChecked b errors = { s with
      mmc := (s.readChecked b errors).mmc, clp := (s.readChecked b errors).clp, drawn := s.drawn + 1 } := by
  rw [State.readChecked_eq]
  dsimp only
  split <;> rfl

theorem State.readChecked_port (s : State) (b : Burst) (errors : List BitError) :
    (s.readChecked b errors).mmc.port = none := by
  rw [State.readChecked_eq]
  dsimp only
  split <;> rfl

theorem State.readChecked_dram (s : State) (b : Burst) (errors : List BitError) :
    (s.readChecked b errors).mmc.dram = s.mmc.dram := by
  rw [State.readChecked_eq]
  dsimp only
  split <;> rfl

/-- One word that its check finds uncorrectable makes the burst uncorrectable (R64). -/
theorem eccResults_contains_uncorrectable {m : List Host.Cell} {weak : List (Nat × EccResult)} {place i : Nat}
    (hi : i < 64) (hwritten : Memory.eccWritten m place i = true)
    (hweak : weak.lookup (64 * place + i) = some .uncorrectable) (drawn : Nat) :
    (eccResults m weak place drawn).contains .uncorrectable = true := by
  rw [List.contains_iff_mem]
  refine List.mem_map.mpr ⟨i, List.mem_range.mpr hi, ?_⟩
  rw [eccOf, if_pos hwritten, hweak]
  rfl

/-- What a skip for MEMORY leaves of the cycle, whatever the engine does next. -/
theorem State.memorySkip_outcome (s : State) (x : BufferId) :
    ((s.memorySkip x).desc x).outcome = some .skipped ∧ ((s.memorySkip x).desc x).skip = some .memory ∧
      ((s.memorySkip x).desc x).ready = [] ∧ (s.memorySkip x).lsv.skips = satSucc s.lsv.skips ∧
      (s.memorySkip x).lsv.counts.skippedMemory = s.lsv.counts.skippedMemory + 1 ∧
      (s.tfu.applyPending = false → (s.memorySkip x).tfu.active = s.tfu.active) := by
  have hgiven := OutcomeFrame.giveSkip s x .memory (s.skipReport x .memory)
  obtain ⟨hskips, hcounts⟩ := s.giveSkip_lsv x .memory (s.skipReport x .memory)
  have hstopped := ((KeepsOutcomes.retire ((s.giveSkip x .memory (s.skipReport x .memory)).updDesc x
    fun d => { d with ready := [] }) x).trans (.engineStops _))
  have hkept : KeepsOutcomes _ (s.memorySkip x) := .ifElse (hstopped.trans (.enterIdle _)) hstopped
  obtain ⟨hout, hskip, hready⟩ := hkept.desc x
  rw [State.desc_updDesc_same, hgiven.desc, State.desc_updDesc_same] at hout hskip hready
  refine ⟨hout, hskip, hready rfl, hkept.skips.trans hskips, ?_, fun hpending => ?_⟩
  · rw [hkept.skippedMemory, State.updDesc_lsv, hcounts]
    rfl
  · have htfu : (s.giveSkip x .memory (s.skipReport x .memory)).tfu = s.tfu := hgiven.tfu
    exact (hkept.applied ((congrArg Tfu.applyPending htfu).trans hpending)).2.trans (congrArg Tfu.active htfu)

/-- With the port free the engine is IDLE at once, and stays so where the trigger waits for a tick. -/
theorem State.memorySkip_idle {s : State} (x : BufferId) (hport : s.mmc.port = none) (horder : s.ctu.order = .batch)
    (htrigger : s.ctu.trigger ≠ .immediate) :
    (s.memorySkip x).rce.state = .idle ∧ (s.memorySkip x).rce.attached = none := by
  have hclosures := ((KeepsClosures.giveSkip s x .memory (s.skipReport x .memory)).trans
    (.updDesc _ x (f := fun d => { d with ready := [] }) ⟨rfl, rfl, rfl, id⟩)).trans (.retire _ x)
  have hfree : ((((s.giveSkip x .memory (s.skipReport x .memory)).updDesc x
      fun d => { d with ready := [] }).retire x).mmc).port = none := by
    have hgiven := (s.giveSkip_port x .memory (s.skipReport x .memory)).trans hport
    unfold State.retire
    split <;> exact hgiven
  unfold State.memorySkip
  dsimp only
  generalize ((s.giveSkip x .memory (s.skipReport x .memory)).updDesc x
    fun d => { d with ready := [] }).retire x = t at hclosures hfree
  have hctu := (hclosures.trans (.engineStops t)).ctu
  have hrce : t.engineStops.rce = t.dropEngineBurst.rce.released := by
    rw [State.engineStops_of_port_free hfree, State.engineLetsGo_rce]
  have hidle : t.engineStops.rce.state = .idle := by rw [hrce]; rfl
  rw [if_pos hidle, State.enterIdle_of_batch hidle (hctu ▸ horder) (hctu ▸ htrigger), State.reportIdle_rce, hrce]
  exact ⟨rfl, rfl⟩

/-- Settles O22: the end of the row comes to `memorySkip`, whose outcome and engine are read off. -/
theorem uncorrectableRowSkipsTheCycle : Obligations.UncorrectableRowSkipsTheCycle := by
  refine ⟨?_, fun s x => rfl, fun s => ⟨ite_congr (congrArg (· = true) ?_) (fun _ => rfl) fun _ => rfl, ?_, rfl⟩⟩
  · intro s b x g i hreset hport hwho hwrite hdropped hplace hstate hattached hblock hi hwritten hweak
    have hrce := s.readChecked_rce b []
    have hframe := s.readChecked_frame b []
    have hend : s.endBurst false [] = (s.readChecked b []).memorySkip x := by
      rw [State.endBurst_of_read hport hwrite,
        eccResults_contains_uncorrectable (weak := addErrors s.mmc.dram b.place s.mmc.weak []) hi hwritten hweak,
        State.readEnded_of_engine hwho]
      exact State.engineBurstEnded_of_busy (s := s.readChecked b []) (hrce ▸ hstate) (hrce ▸ hattached)
        (hrce ▸ hblock) hdropped true _
    have hlsv : (s.readChecked b []).lsv = s.lsv := by rw [hframe]
    have htfu : (s.readChecked b []).tfu = s.tfu := by rw [hframe]
    have hctu : (s.readChecked b []).ctu = s.ctu := by rw [hframe]
    have hsame := SameSurroundings.memorySkip (s.readChecked b []) x
    obtain ⟨hout, hskip, hready, hskips, hmemory, hactive⟩ := (s.readChecked b []).memorySkip_outcome x
    rw [hlsv] at hskips hmemory
    rw [htfu] at hactive
    refine ⟨_, exec_burstEnd_of_port hreset hport hplace _ _, ?_⟩
    rw [hend]
    exact ⟨hout, hskip, hready, hskips, hmemory,
      fun horder htrigger => State.memorySkip_idle x (s.readChecked_port b []) (hctu ▸ horder) (hctu ▸ htrigger),
      hactive, hsame.links.trans (by rw [hframe]), hsame.drp.trans (by rw [hframe]),
      hsame.dram.trans (s.readChecked_dram b [])⟩
  · exact s.enginePort_dropEngineBurst.trans s.enginePort_eq_any
  · unfold State.abandon
    cases s.rce.state <;> rfl

end Sys2Proof.Machine
end

section
/-! PROOF. How a request that starts as it arrives is answered, and how its enumerations and flags are read (R169,
R170, R179): the rules that the statements about requests share. -/

namespace Sys2Proof.Machine

/-! ### Answers -/

/-- A request that is completed after a change of other blocks. -/
theorem State.complete_eq_answered {s t u : State} {payload : List Word} (h : s.Ready payload) {code : Nat}
    {tag : Word} {job : Job} {r : Result} {ws : List Word} (ht : t.clp = (s.started code tag payload job).clp)
    (hu : u = { t with clp := s.clp }) : t.complete r ws = u.answered code tag r ws := by
  rw [State.complete_of_clp h ht, hu]
  rfl

/-- A request that changes nothing. -/
theorem State.transmit_refused {s : State} {payload : List Word} (h : s.Ready payload) {code : Nat} {tag : Word}
    (r : Result) (ws : List Word) :
    ((s.started code tag payload .now).complete r ws).transmit = (s.answered code tag r ws).transmit := by
  rw [State.complete_started h]

/-- A request that changes other blocks. -/
theorem State.transmit_done {s t u : State} {payload : List Word} (h : s.Ready payload) {code : Nat} {tag : Word}
    {job : Job} {r : Result} {ws : List Word} (ht : t.clp = (s.started code tag payload job).clp)
    (hu : u = { t with clp := s.clp }) : (t.complete r ws).transmit = (u.answered code tag r ws).transmit := by
  rw [State.complete_eq_answered h ht hu]

/-- Two requests' checks, one after another. -/
theorem transmit_ite_congr {p q : Prop} [Decidable p] [Decidable q] {t u t' u' : State} (hpq : p ↔ q)
    (ht : q → t.transmit = t') (hu : ¬q → u.transmit = u') :
    (if p then t else u).transmit = if q then t' else u' :=
  (apply_ite State.transmit p t u).trans (ite_congr (propext hpq) ht hu)

/-! ### Numbers of enumerations (R179) -/

theorem toNat_eq_zero_or_one {w : Word} (h : w.toNat ≤ 1) : w = 0 ∨ w = 1 := by
  have : w.toNat = 0 ∨ w.toNat = 1 := by omega
  exact this.imp BitVec.eq_of_toNat_eq BitVec.eq_of_toNat_eq

theorem BankId.ofNumber_of_gt {n : Nat} (h : 1 < n) : BankId.ofNumber n = none := by
  obtain ⟨m, rfl⟩ : ∃ m, n = m + 2 := ⟨n - 2, by omega⟩
  rfl

theorem BankId.ofNumber_of_le {w : Word} (h : w.toNat ≤ 1) :
    BankId.ofNumber w.toNat = some (if w = 0 then .zero else .one) := by
  obtain rfl | rfl := toNat_eq_zero_or_one h <;> rfl

theorem flagOfNumber_of_gt {n : Nat} (h : 1 < n) : flagOfNumber n = none := by
  obtain ⟨m, rfl⟩ : ∃ m, n = m + 2 := ⟨n - 2, by omega⟩
  rfl

theorem flagOfNumber_of_le {w : Word} (h : w.toNat ≤ 1) : flagOfNumber w.toNat = some (decide (w = 1)) := by
  obtain rfl | rfl := toNat_eq_zero_or_one h <;> rfl

theorem enableOfNumber_of_gt {n : Nat} (h : 1 < n) : enableOfNumber n = none := by
  obtain ⟨m, rfl⟩ : ∃ m, n = m + 2 := ⟨n - 2, by omega⟩
  rfl

theorem enableOfNumber_of_le {w : Word} (h : w.toNat ≤ 1) : enableOfNumber w.toNat = some (decide (w = 0)) := by
  obtain rfl | rfl := toNat_eq_zero_or_one h <;> rfl

end Sys2Proof.Machine
end

section
/-! PROOF. WRITE_DIRECTORY, SET_BANK_SHIFT, SWAP_BANK and CANCEL_SWAP: their checks in order (R71 to R74, R78, R79,
R82). -/

namespace Sys2Proof.Machine

/-! ### Ranges in use (R73) -/

theorem pagesMeet_iff (b1 l1 b2 l2 : Nat) : pagesMeet b1 l1 b2 l2 = true ↔ b1 < b2 + l2 ∧ b2 < b1 + l1 := by
  simp [pagesMeet]

theorem Bank.overlaps_iff (x : Bank) (base len : Nat) (skip : Option Nat) :
    x.overlaps base len skip = true ↔
      ∃ h, h < 64 ∧ some h ≠ skip ∧ (entryAt x.directory h .absent).present = true ∧
        (entryAt x.directory h .absent).base < base + len ∧
        base < (entryAt x.directory h .absent).base + (entryAt x.directory h .absent).pages := by
  simp [Bank.overlaps, pagesMeet_iff, and_assoc]

theorem BankId.other_ne (k : BankId) : k.other ≠ k := by
  cases k <;> exact fun h => nomatch h

theorem Tmr.regionMeets_iff (t : Tmr) (base len : Nat) :
    t.regionMeets base len = true ↔
      ∃ c, t.config = some c ∧ c.base < base + len ∧ base < c.base + c.pages := by
  unfold Tmr.regionMeets
  cases t.config with
  | none => simp
  | some c => simp [pagesMeet_iff]

theorem State.rangeInUse_iff (s : State) (k : BankId) (g base len : Nat) :
    s.rangeInUse k g base len = true ↔
      (∃ j h, h < 64 ∧ (j ≠ k ∨ h ≠ g) ∧ (s.entry j h).present = true ∧ (s.entry j h).base < base + len ∧
        base < (s.entry j h).base + (s.entry j h).pages) ∨
      (∃ c, s.tmr.config = some c ∧ c.base < base + len ∧ base < c.base + c.pages) := by
  rw [State.rangeInUse, Bool.or_eq_true, Bool.or_eq_true, Bank.overlaps_iff, Bank.overlaps_iff, Tmr.regionMeets_iff]
  refine or_congr ⟨?_, ?_⟩ Iff.rfl
  · rintro (⟨h, hlt, hne, hrest⟩ | ⟨h, hlt, hne, hrest⟩)
    · exact ⟨k, h, hlt, .inr fun heq => hne (congrArg some heq), hrest⟩
    · exact ⟨k.other, h, hlt, .inl k.other_ne, hrest⟩
  · rintro ⟨j, h, hlt, hne, hrest⟩
    obtain rfl | rfl := k.eq_or_eq_other j
    · exact .inl ⟨h, hlt, fun heq => hne.elim (· rfl) (· (Option.some.inj heq)), hrest⟩
    · exact .inr ⟨h, hlt, (nomatch ·), hrest⟩

/-! ### Protection (R71) -/

section
variable {m : Mmc} {k : BankId}

theorem Mmc.protection_of_active (h : k = m.active) : m.protection k = some .writeProtected := if_pos h

theorem Mmc.protection_of_pending (hactive : k ≠ m.active) (hswap : m.swap = some k) :
    m.protection k = some .pending := (if_neg hactive).trans (if_pos hswap)

theorem Mmc.protection_of_free (hactive : k ≠ m.active) (hswap : m.swap ≠ some k) : m.protection k = none :=
  (if_neg hactive).trans (if_neg hswap)

end

/-- A request in execution changes a bank as it does without the port. -/
theorem State.updBank_started (s : State) (code : Nat) (tag : Word) (payload : List Word) (job : Job) (k : BankId)
    (f : Bank → Bank) :
    s.updBank k f = { (s.started code tag payload job).updBank k f with clp := s.clp } := by
  cases k <;> rfl

/-! ### WRITE_DIRECTORY (R72) -/

section
variable {s : State} {k : BankId} {g base len : Nat}

theorem State.entryRefused_of_length (h : len = 0 ∨ 131072 < base + len) :
    s.entryRefused k g base len = some .length := if_pos h

theorem State.entryRefused_of_not_length (h : ¬(len = 0 ∨ 131072 < base + len)) :
    s.entryRefused k g base len = if s.rangeInUse k g base len then some .overlap else none := if_neg h

end

/-- The entry that a WRITE_DIRECTORY gives. -/
def givenEntry (p : Bool) (base len : Nat) : DirEntry := if p then ⟨true, base, len⟩ else .absent

theorem State.writeDirectory_of_fields {bank block present b1 b0 l1 l0 : Word} {k : BankId} {p : Bool}
    (hk : BankId.ofNumber bank.toNat = some k) (hp : flagOfNumber present.toNat = some p) (s : State) :
    State.writeDirectory [bank, block, present, b1, b0, l1, l0] s =
      if 63 < block.toNat then s.complete .invalid []
      else if k = s.mmc.active then s.complete .writeProtected []
      else if s.mmc.swap = some k then s.complete .pending []
      else if p = true ∧ (natOf2 l1 l0 = 0 ∨ 131072 < natOf2 b1 b0 + natOf2 l1 l0) then s.complete .length []
      else if p = true ∧ s.rangeInUse k block.toNat (natOf2 b1 b0) (natOf2 l1 l0) = true then s.complete .overlap []
      else (s.updBank k fun x => { x with
        directory := writeFrom x.directory block.toNat [givenEntry p (natOf2 b1 b0) (natOf2 l1 l0)] }).complete .ok [] := by
  simp only [State.writeDirectory, hk, hp]
  refine ite_congr rfl (fun _ => rfl) fun _ => ?_
  by_cases hactive : k = s.mmc.active
  · simp only [Mmc.protection_of_active hactive, if_pos hactive]
  by_cases hpending : s.mmc.swap = some k
  · simp only [Mmc.protection_of_pending hactive hpending, if_neg hactive, if_pos hpending]
  simp only [Mmc.protection_of_free hactive hpending, if_neg hactive, if_neg hpending]
  cases p
  · simp only [Bool.false_eq_true, false_and, if_false]
    rfl
  · simp only [true_and, if_true]
    by_cases hlength : natOf2 l1 l0 = 0 ∨ 131072 < natOf2 b1 b0 + natOf2 l1 l0
    · simp only [State.entryRefused_of_length hlength, if_pos hlength]
    · simp only [State.entryRefused_of_not_length hlength, if_neg hlength]
      cases s.rangeInUse k block.toNat (natOf2 b1 b0) (natOf2 l1 l0) <;> rfl

theorem State.writeDirectory_of_bad {bank block present b1 b0 l1 l0 : Word}
    (h : 1 < bank.toNat ∨ 63 < block.toNat ∨ 1 < present.toNat) (s : State) :
    State.writeDirectory [bank, block, present, b1, b0, l1, l0] s = s.complete .invalid [] := by
  by_cases hbank : 1 < bank.toNat
  · simp only [State.writeDirectory, BankId.ofNumber_of_gt hbank]
  · by_cases hpresent : 1 < present.toNat
    · simp only [State.writeDirectory, flagOfNumber_of_gt hpresent, BankId.ofNumber_of_le (Nat.le_of_not_lt hbank)]
    · have hblock : 63 < block.toNat := by omega
      rw [State.writeDirectory_of_fields (BankId.ofNumber_of_le (by omega)) (flagOfNumber_of_le (by omega)),
        if_pos hblock]

/-- A WRITE_DIRECTORY that starts as it arrives. -/
theorem exec_writeDirectory_of_ready {s : State} {tag bank block present b1 b0 l1 l0 : Word}
    (h : s.Ready [bank, block, present, b1, b0, l1, l0]) :
    let base := 65536 * b1.toNat + b0.toNat
    let len := 65536 * l1.toNat + l0.toNat
    let k : BankId := if bank = 0 then .zero else .one
    let entry : DirEntry := if present = 1 then ⟨true, base, len⟩ else ⟨false, 0, 0⟩
    let refuse (r : Result) := (s.answered 13 tag r []).transmit
    exec (.writeDirectory tag [bank, block, present, b1, b0, l1, l0]) s = .next
      (if 1 < bank.toNat ∨ 63 < block.toNat ∨ 1 < present.toNat then refuse .invalid
      else if k = s.mmc.active then refuse .writeProtected
      else if s.mmc.swap = some k then refuse .pending
      else if present = 1 ∧ (len = 0 ∨ 131072 < base + len) then refuse .length
      else if present = 1 ∧ s.rangeInUse k block.toNat base len = true then refuse .overlap
      else State.transmit ((s.updBank k fun x =>
        { x with directory := writeFrom x.directory block.toNat [entry] }).answered 13 tag .ok [])) := by
  intro base len k entry refuse
  refine (request_of_ready h 13 tag).trans (congrArg Host.Outcome.next ?_)
  by_cases hbad : 1 < bank.toNat ∨ 63 < block.toNat ∨ 1 < present.toNat
  · rw [if_pos hbad]
    exact (congrArg State.transmit (State.writeDirectory_of_bad hbad _)).trans (State.transmit_refused h _ _)
  · rw [if_neg hbad]
    have hflag : (decide (present = 1) = true) ↔ present = 1 := decide_eq_true_iff
    have hentry : givenEntry (decide (present = 1)) base len = entry := ite_congr (propext hflag) (fun _ => rfl) fun _ => rfl
    refine (congrArg State.transmit (State.writeDirectory_of_fields (BankId.ofNumber_of_le (by omega))
      (flagOfNumber_of_le (by omega)) _)).trans ?_
    rw [if_neg (by omega)]
    refine transmit_ite_congr Iff.rfl (fun _ => State.transmit_refused h _ _) fun _ => ?_
    refine transmit_ite_congr Iff.rfl (fun _ => State.transmit_refused h _ _) fun _ => ?_
    refine transmit_ite_congr (and_congr hflag Iff.rfl) (fun _ => State.transmit_refused h _ _) fun _ => ?_
    refine transmit_ite_congr (and_congr hflag Iff.rfl) (fun _ => State.transmit_refused h _ _) fun _ => ?_
    rw [← hentry]
    exact State.transmit_done h (State.updBank_clp _ _ _) (State.updBank_started _ _ _ _ _ _ _)

/-! ### SET_BANK_SHIFT (R74) -/

theorem State.setBankShift_of_bank {bank shift : Word} {k : BankId} (hk : BankId.ofNumber bank.toNat = some k)
    (s : State) :
    State.setBankShift [bank, shift] s =
      if k = s.mmc.active then s.complete .writeProtected []
      else if s.mmc.swap = some k then s.complete .pending []
      else if shift.toNat < 8 ∨ 24 < shift.toNat then s.complete .invalid []
      else (s.updBank k fun x => { x with shift := shift.toNat }).complete .ok [] := by
  simp only [State.setBankShift, hk]
  by_cases hactive : k = s.mmc.active
  · simp only [Mmc.protection_of_active hactive, if_pos hactive]
  by_cases hpending : s.mmc.swap = some k
  · simp only [Mmc.protection_of_pending hactive hpending, if_neg hactive, if_pos hpending]
  simp only [Mmc.protection_of_free hactive hpending, if_neg hactive, if_neg hpending]

/-- A SET_BANK_SHIFT that starts as it arrives. -/
theorem exec_setBankShift_of_ready {s : State} {tag bank shift : Word} (h : s.Ready [bank, shift]) :
    let k : BankId := if bank = 0 then .zero else .one
    let refuse (r : Result) := (s.answered 14 tag r []).transmit
    exec (.setBankShift tag [bank, shift]) s = .next
      (if 1 < bank.toNat then refuse .invalid
      else if k = s.mmc.active then refuse .writeProtected
      else if s.mmc.swap = some k then refuse .pending
      else if shift.toNat < 8 ∨ 24 < shift.toNat then refuse .invalid
      else State.transmit ((s.updBank k fun x => { x with shift := shift.toNat }).answered 14 tag .ok [])) := by
  intro k refuse
  refine (request_of_ready h 14 tag).trans (congrArg Host.Outcome.next ?_)
  by_cases hbank : 1 < bank.toNat
  · rw [if_pos hbank]
    refine Eq.trans (congrArg State.transmit ?_) (State.transmit_refused h _ _)
    simp only [State.carryOut, State.setBankShift, BankId.ofNumber_of_gt hbank]
  · rw [if_neg hbank]
    refine (congrArg State.transmit (State.setBankShift_of_bank (BankId.ofNumber_of_le (by omega)) _)).trans ?_
    refine transmit_ite_congr Iff.rfl (fun _ => State.transmit_refused h _ _) fun _ => ?_
    refine transmit_ite_congr Iff.rfl (fun _ => State.transmit_refused h _ _) fun _ => ?_
    refine transmit_ite_congr Iff.rfl (fun _ => State.transmit_refused h _ _) fun _ => ?_
    exact State.transmit_done h (State.updBank_clp _ _ _) (State.updBank_started _ _ _ _ _ _ _)

/-! ### SWAP_BANK and CANCEL_SWAP (R78, R79, R82) -/

/-- The lowest present block of a bank that is too short for the command words (R78). -/
def State.shortBlock (s : State) (k : BankId) : Option Nat :=
  (List.range 64).find? fun g =>
    (s.entry k g).present && decide ((s.entry k g).pages < (s.drp.settings.actuators + 7) / 8)

theorem State.shortBlock_eq (s : State) (k : BankId) : (s.bank k).tooShort s.pagesNeeded = s.shortBlock k := rfl

theorem State.running_iff (s : State) : s.running = true ↔ ¬s.lsv.loop = .stopped := by
  rw [← State.running_eq_false_iff, Bool.not_eq_false]

/-- A SWAP_BANK that starts as it arrives. -/
theorem exec_swapBank_of_ready {s : State} {tag target : Word} (h : s.Ready [target]) :
    let k : BankId := if target = 0 then .zero else .one
    let short := (List.range 64).find? fun g =>
      (s.entry k g).present && decide ((s.entry k g).pages < (s.drp.settings.actuators + 7) / 8)
    exec (.swapBank tag [target]) s = .next (State.transmit
      (if 1 < target.toNat ∨ k = s.mmc.active then s.answered 17 tag .invalid []
      else if s.mmc.swap ≠ none then s.answered 17 tag .pending []
      else match short with
        | some g => s.answered 17 tag .length [BitVec.ofNat 16 g]
        | none =>
          if s.lsv.loop = .stopped then
            State.answered { s with mmc := { s.mmc with active := k } } 17 tag .ok []
          else State.answered { s with mmc := { s.mmc with swap := some k } } 17 tag .accepted [])) := by
  intro k short
  refine (request_of_ready h 17 tag).trans (congrArg (Host.Outcome.next ∘ State.transmit) ?_)
  by_cases htarget : 1 < target.toNat
  · rw [if_pos (.inl htarget), ← State.complete_started h 17 tag .now]
    simp only [State.carryOut, State.swapBank, BankId.ofNumber_of_gt htarget]
  · have hk : BankId.ofNumber target.toNat = some k := BankId.ofNumber_of_le (by omega)
    have hcheck : (1 < target.toNat ∨ k = s.mmc.active) ↔ k = s.mmc.active := or_iff_right htarget
    have hshort : (s.bank k).tooShort s.pagesNeeded = short := State.shortBlock_eq s k
    clear_value k short
    simp only [State.carryOut, State.swapBank, hk]
    refine ite_congr (propext hcheck.symm) (fun _ => State.complete_started h _ _ _ _ _) fun _ => ?_
    refine ite_congr (by rw [Option.isSome_iff_ne_none]; rfl) (fun _ => State.complete_started h _ _ _ _ _) fun _ => ?_
    have hstarted : ((s.started 17 tag [target] .now).bank k).tooShort
      (s.started 17 tag [target] .now).pagesNeeded = short := hshort
    rw [hstarted]
    cases short with
    | some g => exact State.complete_started h _ _ _ _ _
    | none =>
      refine (ite_congr (propext (State.running_iff s)) (fun _ => ?_) fun _ => ?_).trans (ite_not _ _ _)
      · exact State.complete_eq_answered h rfl rfl
      · exact State.complete_eq_answered h rfl rfl

theorem State.cancelSwap_eq (s : State) :
    State.cancelSwap [] s =
      if s.mmc.swap = none then s.complete .wrongState []
      else (s.updMmc fun m => { m with swap := none }).complete .ok [] := by
  cases hswap : s.mmc.swap <;> simp [State.cancelSwap, hswap]

/-- A CANCEL_SWAP that starts as it arrives. -/
theorem exec_cancelSwap_of_ready {s : State} {tag : Word} (h : s.Ready []) :
    exec (.cancelSwap tag []) s = .next (State.transmit
      (if s.mmc.swap = none then s.answered 18 tag .wrongState []
      else State.answered { s with mmc := { s.mmc with swap := none } } 18 tag .ok [])) := by
  refine (request_of_ready h 18 tag).trans (congrArg (Host.Outcome.next ∘ State.transmit) ?_)
  refine (State.cancelSwap_eq _).trans (ite_congr rfl (fun _ => State.complete_started h _ _ _ _ _) fun _ => ?_)
  exact State.complete_eq_answered h rfl rfl

/-- Settles O25: each request that starts as it arrives, and the ranges in use read out of the directories and
the telemetry configuration. -/
theorem bankRequestsAreChecked : Obligations.BankRequestsAreChecked :=
  ⟨fun _ _ _ _ _ _ _ _ _ h => exec_writeDirectory_of_ready h, fun _ _ _ _ h => exec_setBankShift_of_ready h,
    fun _ _ _ h => exec_swapBank_of_ready h, fun _ _ h => exec_cancelSwap_of_ready h, State.rangeInUse_iff⟩

end Sys2Proof.Machine
end

section
/-! PROOF. Rounded quotients are nearest with ties away from zero, and command words stay within their limits
(00_scope, Numbers and rounding; R93, R115). -/

namespace Sys2Proof.Machine

/-! ### Rounded quotients -/

theorem natAbs_roundDiv (n : Int) (d : Nat) : (roundDiv n d).natAbs = (2 * n.natAbs + d) / (2 * d) := by
  unfold roundDiv
  dsimp only
  split
  · rw [Int.natAbs_neg, Int.natAbs_natCast]
  · rw [Int.natAbs_natCast]

/-- A rounded quotient has the sign of what is divided. -/
theorem roundDiv_eq (n : Int) (d : Nat) :
    roundDiv n d = if n < 0 then -((roundDiv n d).natAbs : Int) else (roundDiv n d).natAbs := by
  rw [natAbs_roundDiv]
  rfl

/-- Twice the product lies at most `d` above twice the number that is divided, and less than `d` below it. -/
theorem natAbs_roundDiv_mul_bounds (n : Int) {d : Nat} (hd : 0 < d) :
    2 * ((roundDiv n d).natAbs * d) ≤ 2 * n.natAbs + d ∧
      2 * n.natAbs < 2 * ((roundDiv n d).natAbs * d) + d := by
  rw [natAbs_roundDiv]
  have hle := Nat.div_mul_le_self (2 * n.natAbs + d) (2 * d)
  have hlt := Nat.lt_div_mul_add (a := 2 * n.natAbs + d) (b := 2 * d) (by omega)
  have hmul : (2 * n.natAbs + d) / (2 * d) * (2 * d) = 2 * ((2 * n.natAbs + d) / (2 * d) * d) := by
    rw [Nat.mul_left_comm]
  omega

theorem roundDiv_mul (n : Int) (d : Nat) :
    roundDiv n d * d =
      if n < 0 then -(((roundDiv n d).natAbs * d : Nat) : Int) else ((roundDiv n d).natAbs * d : Nat) := by
  conv => lhs; rw [roundDiv_eq]
  split
  · rw [Int.neg_mul, Int.natCast_mul]
  · rw [Int.natCast_mul]

theorem roundDiv_nearest (n : Int) {d : Nat} (hd : 0 < d) :
    2 * (n - roundDiv n d * d).natAbs ≤ d ∧
      (2 * (n - roundDiv n d * d).natAbs = d → n.natAbs < (roundDiv n d * d).natAbs) := by
  have hbounds := natAbs_roundDiv_mul_bounds n hd
  rw [roundDiv_mul]
  generalize (roundDiv n d).natAbs * d = m at hbounds
  split <;> omega

/-! ### Command words (R115) -/

/-- A quotient by 256 lies between the whole numbers that the dividend lies between. -/
theorem roundDiv_256_within {lo hi x : Int} (hlow : 256 * lo ≤ x) (hhigh : x ≤ 256 * hi) :
    lo ≤ roundDiv x 256 ∧ roundDiv x 256 ≤ hi := by
  obtain ⟨hnear, -⟩ := roundDiv_nearest x (d := 256) (by decide)
  omega

theorem toInt_ofInt_of_within {lo hi : Word} {x : Int} (hlow : lo.toInt ≤ x) (hhigh : x ≤ hi.toInt) :
    (BitVec.ofInt 16 x).toInt = x := by
  have hlo := BitVec.le_toInt lo
  have hhi := BitVec.toInt_lt (x := hi)
  rw [BitVec.toInt_ofInt, Int.bmod_eq_of_le] <;> omega

theorem commandWord_within {p : ActuatorParams} {x : Int} (h : p.Within x) :
    p.lo.toInt ≤ (commandWord x).toInt ∧ (commandWord x).toInt ≤ p.hi.toInt ∧
      (commandWord x).toInt = roundDiv x 256 := by
  obtain ⟨hlow, hhigh⟩ := roundDiv_256_within h.1 h.2
  have hword : (commandWord x).toInt = roundDiv x 256 := toInt_ofInt_of_within hlow hhigh
  rw [hword]
  exact ⟨hlow, hhigh, rfl⟩

/-- Settles O27: the division's remainder bounds the distance, and a tie can only be above. -/
theorem roundedQuotientsAreNearest : Obligations.RoundedQuotientsAreNearest :=
  ⟨fun n _ hd => roundDiv_nearest n hd,
    fun k p => ⟨residualOf_eq k p, by rw [residualSaturates_eq, decide_eq_true_iff]⟩,
    fun _ _ h => commandWord_within h⟩

end Sys2Proof.Machine
end

section
/-! PROOF. The values of a CLOSED pass: updates and re-clamps (R110, R112), and pairs (R111). -/

namespace Sys2Proof.Machine

/-! ### Clamping -/

section
variable {p : ActuatorParams} {x : Int}

theorem ActuatorParams.clamp_of_within (h : p.Within x) : p.clamp x = x := by
  obtain ⟨hlow, hhigh⟩ := h
  rw [ActuatorParams.clamp, clampInt, if_neg (by omega), if_neg (by omega)]

theorem ActuatorParams.clamp_of_below (h : x < p.low) : p.clamp x = p.low := if_pos h

theorem ActuatorParams.clamp_of_above (hp : p.low ≤ p.high) (h : p.high < x) : p.clamp x = p.high := by
  rw [ActuatorParams.clamp, clampInt, if_neg (by omega), if_pos h]

/-- The clamp changes exactly the values outside the limits. -/
theorem ActuatorParams.clamp_ne_of_not_within (hp : p.low ≤ p.high) (h : ¬p.Within x) : p.clamp x ≠ x := by
  intro heq
  have hwithin := ActuatorParams.clamp_within hp x
  rw [heq] at hwithin
  exact h hwithin

end

theorem PassLine.clampTo_of_within {l : PassLine} {u : Int} (h : l.params.Within u) :
    l.clampTo u = { l with value := u } := by
  simp [PassLine.clampTo, ActuatorParams.clamp_of_within h]

theorem PassLine.clampTo_saturated {l : PassLine} {u : Int} (h : l.params.clamp u ≠ u) :
    (l.clampTo u).saturated = true := by
  simp [PassLine.clampTo, h]

/-! ### Updates and re-clamps (R110, R112) -/

section
variable {l : PassLine}

theorem PassLine.update_of_enabled (h : l.params.enabled = true) (r : Int) :
    l.update r = l.clampTo (leakTerm l.params l.value + gainTerm l.params r) := if_pos h

theorem PassLine.update_of_disabled (h : l.params.enabled = false) (r : Int) : l.update r = l :=
  if_neg (by simp [h])

theorem PassLine.reclamp_of_enabled (h : l.params.enabled = true) : l.reclamp = l.clampTo l.value := if_pos h

theorem PassLine.reclamp_of_disabled (h : l.params.enabled = false) : l.reclamp = l := if_neg (by simp [h])

end

/-- With a leak of at most one the leak term is no larger than the value it decays. -/
theorem natAbs_leakTerm_le {p : ActuatorParams} (h : p.leak ≤ 65536) (c : Int) :
    (leakTerm p c).natAbs ≤ c.natAbs := by
  have hprod : p.leak * c.natAbs ≤ 65536 * c.natAbs := Nat.mul_le_mul_right _ h
  rw [leakTerm, natAbs_roundDiv, Int.natAbs_mul, Int.natAbs_natCast]
  omega

/-! ### Pairs (R111) -/

theorem pairMove_of_within {h l d : Int} (hd : h - l ≤ d) (e f : Bool) : pairMove e f h l d = (h, l) := if_pos hd

theorem pairMove_of_apart {h l d : Int} (hd : d < h - l) (e f : Bool) :
    pairMove e f h l d =
      match e, f with
      | true, true => ((h + l - d) / 2 + d, (h + l - d) / 2)
      | true, false => (l + d, l)
      | false, true => (h, h - d)
      | false, false => (h, l) := (if_neg (by omega)).trans (by cases e <;> cases f <;> rfl)

/-- Two enabled members meet at the difference allowed, the odd fine unit going to the lower. -/
theorem pairMove_both_enabled {h l d : Int} (hd : d < h - l) :
    let m := pairMove true true h l d
    m.1 - m.2 = d ∧ m.1 ≤ h ∧ l ≤ m.2 ∧ 0 ≤ (h + l) - (m.1 + m.2) ∧ (h + l) - (m.1 + m.2) ≤ 1 := by
  rw [pairMove_of_apart hd]
  dsimp only
  omega

/-! ### The statement -/

/-- Settles O28: a clamp to limits in order, the leak term's size, and the four cases of a pair. -/
theorem passValuesAreClampedToTheLimits : Obligations.PassValuesAreClampedToTheLimits := by
  refine ⟨fun l r hlimits hleak => ?_, fun h l d _ _ => ⟨fun hwithin e f => pairMove_of_within hwithin e f,
    fun happart => ⟨pairMove_both_enabled happart, pairMove_of_apart happart _ _, pairMove_of_apart happart _ _,
      pairMove_of_apart happart _ _⟩⟩⟩
  intro u
  refine ⟨natAbs_leakTerm_le hleak _, fun henabled => ?_, fun hdisabled =>
    ⟨PassLine.update_of_disabled hdisabled r, PassLine.reclamp_of_disabled hdisabled⟩⟩
  have hupdate : l.update r = l.clampTo u := PassLine.update_of_enabled henabled r
  rw [hupdate, PassLine.reclamp_of_enabled henabled]
  have hclamped (x : Int) : l.params.Within (l.clampTo x).value := ActuatorParams.clamp_within hlimits x
  have hout {x : Int} (hx : ¬l.params.Within x) : (l.clampTo x).saturated = true :=
    PassLine.clampTo_saturated (ActuatorParams.clamp_ne_of_not_within hlimits hx)
  refine ⟨hclamped u, fun hwithin => ?_, fun hbelow => ⟨ActuatorParams.clamp_of_below hbelow, hout fun hwithin => ?_⟩,
    fun habove => ⟨ActuatorParams.clamp_of_above hlimits habove, hout fun hwithin => ?_⟩, hclamped _,
    PassLine.clampTo_of_within, hout⟩
  · rw [PassLine.clampTo_of_within hwithin]
    exact ⟨rfl, rfl⟩
  · exact absurd hwithin.1 (by omega)
  · exact absurd hwithin.2 (by omega)

end Sys2Proof.Machine
end

section
/-! PROOF. The end of a filter pass, all steps of R113: its results, the slice it hands on, and the outcome given. -/

namespace Sys2Proof.Machine

/-! ### What follows an outcome -/

/-- From `s`, where an outcome was given, to `t`: it was recorded and the buffer retired. -/
structure OutcomeRecorded (s t : State) : Prop where
  tfu : t.tfu = s.tfu
  ctu : t.ctu = s.ctu
  rce : t.rce = s.rce
  lsv : t.lsv = s.lsv
  inExec : t.clp.inExec = s.clp.inExec
  outcome : ∀ y, (t.desc y).outcome = (s.desc y).outcome

namespace OutcomeRecorded

variable {s t u : State}

theorem refl (s : State) : OutcomeRecorded s s := ⟨rfl, rfl, rfl, rfl, rfl, fun _ => rfl⟩

theorem trans (h : OutcomeRecorded s t) (k : OutcomeRecorded t u) : OutcomeRecorded s u :=
  ⟨k.tfu.trans h.tfu, k.ctu.trans h.ctu, k.rce.trans h.rce, k.lsv.trans h.lsv, k.inExec.trans h.inExec,
    fun y => (k.outcome y).trans (h.outcome y)⟩

theorem ifElse {p : Prop} [Decidable p] (ht : OutcomeRecorded s t) (hu : OutcomeRecorded s u) :
    OutcomeRecorded s (if p then t else u) := by
  split
  · exact ht
  · exact hu

theorem of_recorder (h : RecorderFrame s t) : OutcomeRecorded s t := by
  rw [h]
  exact ⟨rfl, rfl, rfl, rfl, rfl, fun y => by cases y <;> rfl⟩

theorem updDesc_state (s : State) (x : BufferId) (b : BufferState) :
    OutcomeRecorded s (s.updDesc x fun d => { d with state := b }) := by
  refine ⟨rfl, rfl, rfl, rfl, rfl, fun y => ?_⟩
  by_cases hy : y = x
  · subst hy
    rw [State.desc_updDesc_same]
  · rw [State.desc_updDesc_of_ne s hy]

theorem retire (s : State) (x : BufferId) : OutcomeRecorded s (s.retire x) := ifElse (updDesc_state s x _) (refl s)

theorem freeIfReleased (s : State) (x : BufferId) : OutcomeRecorded s (s.freeIfReleased x) :=
  ifElse (updDesc_state s x _) (refl s)

end OutcomeRecorded

/-! ### A completed cycle's outcome (R125, R128) -/

/-- The supervisor and the buffer have taken COMPLETED. -/
def State.supervised (s : State) (p : FilterPass) (saturated adjustments : Nat) : State :=
  (s.superviseCompletion p.tag saturated adjustments).updDesc p.buffer fun d => { d with outcome := some .completed }

theorem OutcomeRecorded.completionGiven (s : State) (p : FilterPass) (m n : Nat) (r : CycleReport) :
    OutcomeRecorded (s.supervised p m n) (s.completionGiven p m n r) :=
  ((of_recorder (RecorderFrame.recordOutcome _ p.buffer r)).trans (retire _ _)).trans (freeIfReleased _ _)

section
variable (s : State) (p : FilterPass) (m n : Nat)

theorem State.supervised_frame : OutcomeFrame (s.updDesc p.buffer fun d => { d with outcome := some .completed })
    (s.supervised p m n) := by
  unfold State.supervised State.superviseCompletion
  dsimp only
  split <;> rfl

theorem State.supervised_inExec : (s.supervised p m n).clp.inExec = s.clp.inExec := by
  unfold State.supervised State.superviseCompletion
  dsimp only
  split
  · rw [State.updDesc_clp, State.trip, State.raise_eq]
    rfl
  · rfl

theorem State.supervised_lsv : (s.supervised p m n).lsv.skips = 0 ∧
    (s.supervised p m n).lsv.counts = { s.lsv.counts with
      completed := s.lsv.counts.completed + 1
      actuatorSaturations := addCount s.lsv.counts.actuatorSaturations m
      pairAdjustments := addCount s.lsv.counts.pairAdjustments n } := by
  unfold State.supervised State.superviseCompletion
  dsimp only
  split <;> exact ⟨rfl, rfl⟩

end

/-! ### The results of a pass (R109 to R113) -/

section
variable {s : State} {p : FilterPass}

/-- The state whose supervisor takes COMPLETED: results written, slice handed on. -/
def State.passHandedOn (s : State) (p : FilterPass) : State := (s.passWritten p).sliceHandedOn p

/-- The two counts of a pass. -/
def State.passSaturated (s : State) (p : FilterPass) : Nat := saturatedCount (s.tfu.passResult p).1
def State.passAdjusted (s : State) (p : FilterPass) : Nat := (s.tfu.passResult p).2

theorem State.recorded_completePass (s : State) (p : FilterPass) :
    OutcomeRecorded ((s.passHandedOn p).supervised p (s.passSaturated p) (s.passAdjusted p)) (s.completePass p) := by
  rw [State.completePass_eq]
  have hgiven := OutcomeRecorded.completionGiven (s.passHandedOn p) p (s.passSaturated p) (s.passAdjusted p)
    (s.passReport p)
  exact .ifElse (hgiven.trans (.of_recorder (RecorderFrame.freeze _ _ _))) hgiven

theorem State.passHandedOn_eq (s : State) (p : FilterPass) :
    s.passHandedOn p = { s with
      tfu := s.tfu.writeBack (s.tfu.passResult p).1
      drp := if p.formsSlice then s.drp.join ((s.passWritten p).formSlice p) else s.drp } := by
  unfold State.passHandedOn State.sliceHandedOn
  split <;> rfl

theorem State.completePass_tfu (s : State) (p : FilterPass) :
    (s.completePass p).tfu = s.tfu.writeBack (s.tfu.passResult p).1 := by
  rw [(s.recorded_completePass p).tfu, (State.supervised_frame _ p _ _).tfu, State.updDesc_tfu, State.passHandedOn_eq]

theorem State.completePass_rce (s : State) (p : FilterPass) : (s.completePass p).rce = s.rce := by
  rw [(s.recorded_completePass p).rce, (State.supervised_frame _ p _ _).rce, State.updDesc_rce, State.passHandedOn_eq]

theorem State.completePass_ctu (s : State) (p : FilterPass) : (s.completePass p).ctu = s.ctu := by
  rw [(s.recorded_completePass p).ctu, (State.supervised_frame _ p _ _).ctu, State.updDesc_ctu, State.passHandedOn_eq]

theorem State.completePass_inExec (s : State) (p : FilterPass) : (s.completePass p).clp.inExec = s.clp.inExec := by
  rw [(s.recorded_completePass p).inExec, State.supervised_inExec, State.passHandedOn_eq]

theorem State.completePass_lsv (s : State) (p : FilterPass) :
    (s.completePass p).lsv.skips = 0 ∧ (s.completePass p).lsv.counts = { s.lsv.counts with
      completed := s.lsv.counts.completed + 1
      actuatorSaturations := addCount s.lsv.counts.actuatorSaturations (s.passSaturated p)
      pairAdjustments := addCount s.lsv.counts.pairAdjustments (s.passAdjusted p) } := by
  rw [(s.recorded_completePass p).lsv]
  have h := State.supervised_lsv (s.passHandedOn p) p (s.passSaturated p) (s.passAdjusted p)
  rwa [show (s.passHandedOn p).lsv = s.lsv by rw [State.passHandedOn_eq]] at h

theorem State.completePass_outcome (s : State) (p : FilterPass) :
    ((s.completePass p).desc p.buffer).outcome = some .completed := by
  rw [(s.recorded_completePass p).outcome, (State.supervised_frame _ p _ _).desc, State.desc_updDesc_same]

end

/-! ### Pairs and the slice queue, said once (R111, R147) -/

theorem takePair_eq (lines : List PassLine) (n : Nat) (q : ActuatorPair) : takePair (lines, n) q =
    match lines[q.first]?, lines[q.second]? with
    | some f, some g =>
      let d : Int := 256 * q.maxDiff
      let m := if f.value < g.value then
          (let m := pairMove g.params.enabled f.params.enabled g.value f.value d; (m.2, m.1))
        else pairMove f.params.enabled g.params.enabled f.value g.value d
      if m = (f.value, g.value) then (lines, n)
      else ((lines.set q.first { f with value := m.1 }).set q.second { g with value := m.2 }, n + 1)
    | _, _ => (lines, n) := by
  unfold takePair
  cases lines[q.first]? with
  | none => rfl
  | some f =>
    cases lines[q.second]? with
    | none => rfl
    | some g => by_cases hlt : f.value < g.value <;> simp [hlt, Prod.ext_iff]

theorem Drp.join_eq (d : Drp) (x : Slice) :
    let kept := (d.queue.filter fun q => frameBefore q.tag x.tag) ++ [x]
    let final := if 2 < kept.length then kept.tail else kept
    d.join x = { d with
      queue := final
      counts := { d.counts with
        overruns := d.counts.overruns + BitVec.ofNat 32 (d.queue.length + 1 - final.length) } } := by
  intro kept final
  have hfinal : (if kept.length > 2 then kept.drop 1 else kept) = final := by rw [List.drop_one]
  unfold Drp.join
  dsimp only
  rw [hfinal]
  rfl

/-! ### A pass that writes nothing new (R109) -/

theorem saturatedCount_passLines (active : List ActiveRecord) (values : List Int) :
    saturatedCount (passLines active values) = 0 := by
  refine List.countP_eq_zero.mpr fun l hl => ?_
  obtain ⟨i, hi⟩ := List.mem_iff_getElem?.mp hl
  obtain ⟨r, v, -, -, rfl⟩ := getElem?_passLines hi
  exact Bool.false_ne_true

/-- Values that are the accumulators are written back as they stand. -/
theorem Tfu.writeBack_passLines {t : Tfu} {values : List Int}
    (h : ∀ (i : Nat) (v : Int) (r : ActiveRecord), values[i]? = some v → t.active.toList[i]? = some r → v = r.acc) :
    t.writeBack (passLines t.active.toList values) = t := by
  have hactive : mapTable (endRecord (passLines t.active.toList values)) t.active = t.active := by
    refine Vector.toList_inj.mp (List.ext_getElem? fun i => ?_)
    rw [mapTable_toList, List.getElem?_mapIdx]
    cases hr : t.active.toList[i]? with
    | none => rfl
    | some r =>
      refine congrArg some ?_
      unfold endRecord
      cases hl : (passLines t.active.toList values)[i]? with
      | none => rfl
      | some l =>
        obtain ⟨r', v, hr', hv, rfl⟩ := getElem?_passLines hl
        obtain rfl : r = r' := Option.some.inj (hr.symm.trans hr')
        obtain rfl := h i v r hv hr
        rfl
  rw [Tfu.writeBack, hactive]

theorem Tfu.passResult_of_ne_closed {t : Tfu} {p : FilterPass} (h : p.loop ≠ .closed) :
    t.passResult p = (passLines t.active.toList p.values, 0) := if_neg h

theorem State.passSaturated_of_ne_closed {s : State} {p : FilterPass} (h : p.loop ≠ .closed) :
    s.passSaturated p = 0 := by
  rw [State.passSaturated, Tfu.passResult_of_ne_closed h, saturatedCount_passLines]

theorem State.passAdjusted_of_ne_closed {s : State} {p : FilterPass} (h : p.loop ≠ .closed) :
    s.passAdjusted p = 0 := congrArg Prod.snd (Tfu.passResult_of_ne_closed h)

theorem addCount_zero (c : Count) : addCount c 0 = c := BitVec.add_zero c

/-! ### The event -/

theorem State.endPass_of_none {s : State} (h : s.tfu.pass = none) : s.endPass = s := by
  unfold State.endPass
  rw [h]

theorem State.endPass_of_some {s : State} {p : FilterPass} (h : s.tfu.pass = some p) :
    s.endPass =
      (((s.completePass p).applyIfDue.presetIfWaiting).updTfu fun t => { t with pass := none }).offer := by
  unfold State.endPass
  rw [h]

theorem exec_filterPassEnd {s : State} (h : s.inReset = false) : exec .filterPassEnd s = .next s.endPass.settle :=
  act_of_not_inReset h State.endPass

/-- Where nothing waits for the end of a pass, the cycle's completion is all its end does. -/
theorem State.endPass_of_quiet {s : State} {p : FilterPass} (hpass : s.tfu.pass = some p)
    (hdue : s.tfu.applyDue = false) (hexec : s.clp.inExec = none) (hoffers : s.rce.state ≠ .delivering) :
    s.endPass = (s.completePass p).updTfu fun t => { t with pass := none } := by
  have happly : (s.completePass p).applyIfDue = s.completePass p := by
    refine if_neg ?_
    rw [State.completePass_tfu]
    simp [Tfu.writeBack, hdue]
  have hpreset : (s.completePass p).presetIfWaiting = s.completePass p := by
    unfold State.presetIfWaiting
    rw [State.completePass_inExec, hexec]
  rw [State.endPass_of_some hpass, happly, hpreset, State.offer_of_ne]
  rwa [State.updTfu_rce, State.completePass_rce]

/-! ### The statement -/

/-- The active record at the end of a pass. -/
theorem Tfu.getElem?_writeBack {t : Tfu} {lines : List PassLine} {i : Nat} {r : ActiveRecord}
    (h : t.active.toList[i]? = some r) : (t.writeBack lines).active.toList[i]? = some (endRecord lines i r) := by
  rw [Tfu.writeBack, mapTable_toList, List.getElem?_mapIdx, h]
  rfl

theorem endRecord_eq (lines : List PassLine) (i : Nat) (r : ActiveRecord) :
    endRecord lines i r = match lines[i]? with
      | some l => { r with
          acc := l.value, saturations := r.saturations + (if l.saturated = true then 1 else 0) }
      | none => r := by
  unfold endRecord
  cases lines[i]? with
  | none => rfl
  | some l => cases hsat : l.saturated <;> simp [hsat]

theorem FilterPass.formsSlice_iff (p : FilterPass) : p.formsSlice = true ↔ p.loop = .closed ∨ p.loop = .held := by
  simp [FilterPass.formsSlice]

theorem State.surroundings_completePass (s : State) (p : FilterPass) :
    SameSurroundings (s.passHandedOn p) (s.completePass p) := by
  rw [State.completePass_eq]
  have hgiven := SameSurroundings.completionGiven (s.passHandedOn p) p (s.passSaturated p) (s.passAdjusted p)
    (s.passReport p)
  exact .ifElse (hgiven.trans (.freeze _ _ _)) hgiven

/-- Steps 1 to 5 of R113. -/
theorem State.completePass_steps (s : State) (p : FilterPass) :
    let w := s.completePass p
    let lines := List.zipWith (fun (r : ActiveRecord) (v : Int) => (⟨r.params, v, false⟩ : PassLine))
      s.tfu.active.toList p.values
    let paired := (s.tfu.activePairs.slots.toList.take s.tfu.activePairs.count).foldl takePair
      (List.zipWith PassLine.update lines p.residuals, 0)
    let final := if p.loop = .closed then (paired.1.map PassLine.reclamp, paired.2) else (lines, 0)
    let saturated := final.1.countP (·.saturated)
    let forms := p.loop = .closed ∨ p.loop = .held
    let words := (w.tfu.active.toList.take s.drp.settings.actuators).map fun r =>
      BitVec.ofInt 16 (roundDiv r.acc 256)
    let u : State := { s with
      tfu := { s.tfu with active := w.tfu.active }
      drp := if forms then s.drp.join ⟨p.tag, p.loop == .held, words, s.drp.settings⟩ else s.drp }
    let v := (u.superviseCompletion p.tag saturated final.2).updDesc p.buffer fun d =>
      { d with outcome := some .completed }
    let y := ((v.recordOutcome p.buffer ⟨.completed, none, some p.loop, some p.bank, some p.attachedAt,
      some s.ctu.timebase, saturated, final.2, p.residuals, if forms then some words else none⟩).retire
        p.buffer).freeIfReleased p.buffer
    (∀ (i : Nat) (r : ActiveRecord), s.tfu.active.toList[i]? = some r → w.tfu.active.toList[i]? = some
      (match final.1[i]? with
      | some l => { r with
          acc := l.value, saturations := r.saturations + (if l.saturated = true then 1 else 0) }
      | none => r)) ∧
    w = (if s.lsv.loop = .closed ∧ s.lsv.saturationLimit ≠ 0 ∧ s.lsv.saturationLimit ≤ saturated then
      y.freeze .saturation p.tag
    else y) := by
  intro w lines paired final saturated forms words u v y
  have hfinal : s.tfu.passResult p = final := rfl
  have hw : w.tfu = s.tfu.writeBack final.1 := hfinal ▸ s.completePass_tfu p
  have hwords : words = ((s.passWritten p).formSlice p).words := by
    change (w.tfu.active.toList.take _).map _ = _
    rw [hw]
    rfl
  have hforms : p.formsSlice = true ↔ forms := p.formsSlice_iff
  have hu : s.passHandedOn p = u := by
    change s.passHandedOn p = { s with
      tfu := { s.tfu with active := w.tfu.active }
      drp := if forms then s.drp.join ⟨p.tag, p.loop == .held, words, s.drp.settings⟩ else s.drp }
    rw [State.passHandedOn_eq, hw, hwords]
    simp only [hforms]
    rfl
  have hreport : s.passReport p = ⟨.completed, none, some p.loop, some p.bank, some p.attachedAt,
      some s.ctu.timebase, saturated, final.2, p.residuals, if forms then some words else none⟩ := by
    rw [hwords]
    unfold State.passReport
    simp only [hforms]
    rfl
  have hy : (s.passHandedOn p).completionGiven p saturated final.2 (s.passReport p) = y := by
    rw [hu, hreport]
    rfl
  refine ⟨fun i r hr => ?_, ?_⟩
  · rw [hw, Tfu.getElem?_writeBack hr, endRecord_eq]
  · rw [← hy]
    exact (s.completePass_eq p).trans (ite_congr (propext (s.lsv.saturationTrips_iff _)) (fun _ => rfl) fun _ => rfl)

/-- What a quiet end of a pass leaves. -/
theorem exec_filterPassEnd_of_quiet {s : State} {p : FilterPass} (hreset : s.inReset = false)
    (hpass : s.tfu.pass = some p) (hdue : s.tfu.applyDue = false) (hexec : s.clp.inExec = none)
    (hoffers : s.rce.state ≠ .delivering)
    (hvalues : ∀ (i : Nat) (v : Int) (r : ActiveRecord), p.values[i]? = some v →
      s.tfu.active.toList[i]? = some r → v = r.acc) :
    ∃ t : State, exec .filterPassEnd s = .next t.settle ∧ t.tfu.pass = none ∧
      (t.desc p.buffer).outcome = some .completed ∧
      t.lsv.counts.completed = s.lsv.counts.completed + 1 ∧ t.lsv.skips = 0 ∧
      (p.loop ≠ .closed → t.tfu.active = s.tfu.active ∧
        t.lsv.counts.actuatorSaturations = s.lsv.counts.actuatorSaturations ∧
        t.lsv.counts.pairAdjustments = s.lsv.counts.pairAdjustments) ∧
      (p.loop ≠ .closed → p.loop ≠ .held → t.drp = s.drp) ∧
      t.tfu.shadow = s.tfu.shadow ∧ t.links = s.links ∧ t.mmc.dram = s.mmc.dram ∧ t.ctu = s.ctu := by
  obtain ⟨hskips, hcounts⟩ := s.completePass_lsv p
  have htfu := s.completePass_tfu p
  refine ⟨(s.completePass p).updTfu fun t => { t with pass := none }, ?_, rfl, ?_, ?_, hskips, fun hclosed => ⟨?_, ?_, ?_⟩,
    fun hclosed hheld => ?_, ?_, ?_, ?_, ?_⟩
  · rw [exec_filterPassEnd hreset, State.endPass_of_quiet hpass hdue hexec hoffers]
  · rw [State.desc_updTfu, State.completePass_outcome]
  · rw [State.updTfu_lsv, hcounts]
  · rw [State.updTfu_tfu, htfu, Tfu.passResult_of_ne_closed hclosed, Tfu.writeBack_passLines hvalues]
  · rw [State.updTfu_lsv, hcounts, State.passSaturated_of_ne_closed hclosed, addCount_zero]
  · rw [State.updTfu_lsv, hcounts, State.passAdjusted_of_ne_closed hclosed, addCount_zero]
  · have hforms : ¬p.formsSlice = true := fun h => (p.formsSlice_iff.mp h).elim hclosed hheld
    rw [State.updTfu_drp, (s.surroundings_completePass p).drp, State.passHandedOn_eq, if_neg hforms]
  · rw [State.updTfu_tfu, htfu]
    rfl
  · rw [State.updTfu_links, (s.surroundings_completePass p).links, State.passHandedOn_eq]
  · rw [State.updTfu_mmc, (s.surroundings_completePass p).dram, State.passHandedOn_eq]
  · rw [State.updTfu_ctu, State.completePass_ctu]

/-- Settles O30: the event by its operations, the pass's results read out of the lines, and what a quiet end
leaves. -/
theorem filterPassEndCompletesTheCycle : Obligations.FilterPassEndCompletesTheCycle := by
  refine ⟨fun s hreset hpass => ?_, fun s p hreset hpass => ?_, State.completePass_steps, takePair_eq, Drp.join_eq,
    fun s p => exec_filterPassEnd_of_quiet⟩
  · rw [exec_filterPassEnd hreset, State.endPass_of_none hpass]
  · rw [exec_filterPassEnd hreset, State.endPass_of_some hpass]
    rfl

end Sys2Proof.Machine
end

section
/-! PROOF. SET_LOOP to STOPPED: what the entry does to each block (R123), stage by stage in the order of its
definition. -/

namespace Sys2Proof.Machine

/-! ### The recorder (R160) -/

/-- The memory controller where a record is cut or not: its waiting burst withdrawn, a granted one no longer
heeded. -/
def Mmc.recordCut (m : Mmc) (cut : Bool) : Mmc :=
  { m with
    recorderWaits := if cut then none else m.recorderWaits
    port := if cut then m.port.map fun p => if p.who = .telemetry then { p with dropped := true } else p
      else m.port }

/-- The recorder once a record is cut. -/
def Tmr.recordCut (t : Tmr) : Tmr :=
  { t with writing := none, counts := { t.counts with cut := t.counts.cut + 1 } }

/-- The slope copy of the record in writing is not done. -/
def State.holdsCopy (s : State) : Bool := s.tmr.writing.any (·.holds)

/-- The blocks once the recorder has learned of the freeing. -/
def State.recorderStopped (s : State) : State :=
  { s with
    mmc := s.mmc.recordCut s.holdsCopy
    tmr := if s.holdsCopy then s.tmr.recordCut else s.tmr }

/-- A buffer's return to FREE is lost in the freeing that follows it. -/
theorem State.stopAssembly_freeIfReleased (s : State) (x : BufferId) :
    (s.freeIfReleased x).stopAssembly = s.stopAssembly := by
  unfold State.freeIfReleased
  split
  · rename_i h
    obtain ⟨hretiring, -, -⟩ := h
    have hcount : (s.updDesc x fun d => { d with state := .free }).abandonCount = s.abandonCount := by
      cases x <;> simp [State.abandonCount, Descriptor.toAbandon, State.desc, State.buffer, State.updDesc,
        State.updBuffer, State.updSau] at hretiring ⊢ <;> simp [hretiring]
    rw [State.stopAssembly, State.stopAssembly, hcount]
    cases x <;> (unfold State.updDesc State.updBuffer State.updSau; dsimp only; split <;> rfl)
  · rfl

theorem State.stopRecorder_stopAssembly (s : State) : s.stopRecorder.stopAssembly = s.recorderStopped.stopAssembly := by
  unfold State.stopRecorder State.recorderStopped State.holdsCopy
  cases hwriting : s.tmr.writing with
  | none => rfl
  | some w =>
    cases hholds : w.holds with
    | false =>
      simp only [Option.any_some, hholds]
      rfl
    | true =>
      simp only [Option.any_some, hholds, if_true]
      unfold State.cutRecord
      rw [hwriting]
      exact State.stopAssembly_freeIfReleased _ _

/-! ### The buffers (R32, R48) -/

/-- The links once the copy in progress has ended NOT_STORED. -/
def State.linksRefused (s : State) : Vector LinkState 8 :=
  match s.sau.copy with
  | some c => (s.updLink c.link fun x => x.returnOutcome .notStored).links
  | none => s.links

theorem State.stopAssembly_frame (s : State) :
    s.stopAssembly = { s with
      links := s.linksRefused
      sau := s.sau.free
      lsv := { s.lsv with counts := { s.lsv.counts with
        abandoned := addCount s.lsv.counts.abandoned s.abandonCount } } } := by
  unfold State.stopAssembly State.linksRefused
  cases s.sau.copy <;> rfl

/-- The cycles that are abandoned. -/
theorem State.abandonCount_eq_countP (s : State) :
    s.abandonCount = [BufferId.a, .b].countP fun x =>
      ((s.desc x).state == .opened || (s.desc x).state == .closed) && (s.desc x).outcome == none := by
  rw [List.countP_cons, List.countP_singleton, Nat.add_comm]
  rfl

/-! ### The engine (R96, R98) -/

theorem State.engineLetsGo_of_not_attached {s : State} (h : ∀ x, (s.desc x).relation ≠ .attached) :
    s.engineLetsGo = s.updRce Rce.released := by
  unfold State.engineLetsGo
  dsimp only
  split
  · rw [if_neg (h _)]
    rfl
  · rfl

/-- The memory controller where the engine is stopped or not: its bursts are withdrawn or no longer heeded (R68). -/
def Mmc.engineDropped (m : Mmc) (stops : Bool) : Mmc :=
  { m with
    engineWaits := if stops then none else m.engineWaits
    port := if stops then m.port.map fun p => if p.who = .engine then { p with dropped := true } else p
      else m.port }

/-- A busy engine's granted burst still transfers. -/
def State.transfers (s : State) : Bool := decide (s.rce.state = .busy) && s.enginePort

/-- The engine where no buffer is attached to it any more. -/
theorem State.abandon_of_not_attached {s : State} (h : ∀ x, (s.desc x).relation ≠ .attached) :
    s.abandon = { s with
      mmc := s.mmc.engineDropped (s.rce.state == .busy)
      rce := if s.transfers then { s.rce with state := .draining }
        else if s.rce.state = .idle ∨ s.rce.state = .draining then s.rce else s.rce.released } := by
  unfold State.abandon State.transfers
  have hreleased := State.engineLetsGo_of_not_attached h
  cases hstate : s.rce.state with
  | idle => rfl
  | draining => rfl
  | waiting => exact hreleased
  | delivering => exact hreleased
  | busy =>
    have hdropped : s.dropEngineBurst.engineLetsGo = s.dropEngineBurst.updRce Rce.released :=
      State.engineLetsGo_of_not_attached fun x => by
        rw [State.dropEngineBurst, State.desc_updMmc]
        exact h x
    simp only [State.engineStops, State.enginePort_dropEngineBurst, hdropped]
    cases s.enginePort <;> rfl

/-! ### The filter and the bank (R81, R108, R114) -/

/-- The notice list after a notice is raised. -/
def Clp.raised (p : NoticePayload) (c : Clp) : List Notice :=
  if inMask c.mask p.kind then addNotice p c.notices else c.notices

theorem State.stopFilter_frame (s : State) :
    s.stopFilter = { s with
      tfu := { (if s.tfu.applyPending = true then s.tfu.apply else s.tfu) with pass := none }
      clp := { s.clp with notices :=
        if s.tfu.applyPending = true then s.clp.raised (.paramsApplied .stop) else s.clp.notices } } := by
  unfold State.stopFilter State.applyAt
  cases hpending : s.tfu.applyPending <;> simp [State.raise_eq, State.updTfu, hpending, Tfu.apply, Clp.raised]

theorem State.makeSwap_frame (s : State) (tag : Option Word) :
    s.makeSwap tag = { s with
      mmc := { s.mmc with active := s.mmc.swap.getD s.mmc.active, swap := none }
      clp := { s.clp with notices := (match s.mmc.swap with
        | some k => s.clp.raised (.swapDone k tag)
        | none => s.clp.notices) } } := by
  cases hswap : s.mmc.swap with
  | none =>
    rw [State.makeSwap_of_none hswap]
    have hmmc : ({ s.mmc with swap := none } : Mmc) = s.mmc := by rw [← hswap]
    exact (congrArg (fun m => { s with mmc := m }) hmmc).symm
  | some k => simp [State.makeSwap_of_some hswap, State.raise_eq, State.updMmc, Clp.raised]

/-! ### The entry as a whole -/

theorem State.enginePort_recorderStopped (s : State) : s.recorderStopped.enginePort = s.enginePort := by
  unfold State.recorderStopped
  rw [State.enginePort_eq_any, State.enginePort_eq_any]
  cases s.holdsCopy with
  | false => rfl
  | true =>
    cases hport : s.mmc.port with
    | none => simp [Mmc.recordCut, hport]
    | some p => by_cases hwho : p.who = .telemetry <;> simp [Mmc.recordCut, hport, hwho]

/-- The notice list with the notice of an apply then pending, which names STOP. -/
def State.applyNotices (s : State) : List Notice :=
  if s.tfu.applyPending = true then s.clp.raised (.paramsApplied .stop) else s.clp.notices

/-- The notice list with that of a swap then pending behind it. -/
def State.stopNotices (s : State) : List Notice :=
  match s.mmc.swap with
  | some k => ({ s.clp with notices := s.applyNotices } : Clp).raised (.swapDone k none)
  | none => s.applyNotices

/-- Every block after the entry to STOPPED, before the engine's report of IDLE. -/
def State.blocksStopped (s : State) : State :=
  { s with
    links := s.linksRefused
    sau := s.sau.free
    ctu := { s.ctu with deadlineAt := none }
    mmc := { (s.mmc.recordCut s.holdsCopy).engineDropped (s.rce.state == .busy) with
      active := s.mmc.swap.getD s.mmc.active, swap := none }
    rce := if s.recorderStopped.transfers then { s.rce with state := .draining }
      else if s.rce.state = .idle ∨ s.rce.state = .draining then s.rce else s.rce.released
    tfu := { (if s.tfu.applyPending = true then s.tfu.apply else s.tfu) with pass := none }
    lsv := { s.lsv with
      loop := .stopped, stopInProgress := true
      counts := { s.lsv.counts with abandoned := addCount s.lsv.counts.abandoned s.abandonCount } }
    drp := { s.drp with queue := [] }
    tmr := s.recorderStopped.tmr
    clp := { s.clp with
      notices := s.stopNotices
      inExec := s.clp.inExec.map fun e => { e with job := .engine s.lsv.loop } } }

theorem State.enterStopped_eq (s : State) : s.enterStopped = s.blocksStopped.reportIdle := by
  unfold State.enterStopped
  dsimp only
  rw [State.setJob_eq, State.stopRecorder_stopAssembly, State.stopAssembly_frame, State.abandon_of_not_attached,
    State.stopFilter_frame, State.makeSwap_frame]
  · refine congrArg State.reportIdle ?_
    rfl
  · intro x
    cases x <;> exact fun h => nomatch h

/-! ### The report of IDLE (R98) -/

/-- The engine goes on transferring a burst after the entry. -/
def State.drains (s : State) : Bool := decide (s.rce.state = .draining) || s.transfers

theorem State.blocksStopped_idle_iff (s : State) : s.blocksStopped.rce.state = .idle ↔ s.drains = false := by
  unfold State.blocksStopped State.drains
  dsimp only
  rw [show s.recorderStopped.transfers = s.transfers by
    rw [State.transfers, State.enginePort_recorderStopped]; rfl]
  unfold State.transfers
  cases hstate : s.rce.state <;> cases s.enginePort <;> simp [Rce.released, hstate]

/-- A reply filled where only the notice list has changed beside it. -/
theorem State.complete_started_notices {s t : State} {payload : List Word} (h : s.Ready payload) {code : Nat}
    {tag : Word} {job : Job} {ns : List Notice}
    (ht : t.clp = { (s.started code tag payload job).clp with notices := ns }) (r : Result) (ws : List Word) :
    t.complete r ws = { t with clp := { (s.answered code tag r ws).clp with notices := ns } } :=
  State.complete_of_clp (s := { s with clp := { s.clp with notices := ns } }) h ht r ws

theorem State.reportIdle_of_waiting {s : State} {r : Request} {found : LoopState} (hidle : s.rce.state = .idle)
    (hstop : s.lsv.stopInProgress = true) (hexec : s.clp.inExec = some ⟨r, .engine found⟩) :
    s.reportIdle = State.complete { s with lsv := { s.lsv with stopInProgress := false } } .ok
      [BitVec.ofNat 16 found.number, 0] := by
  unfold State.reportIdle
  rw [if_pos ⟨hidle, hstop⟩, hexec]
  rfl

/-- SET_LOOP to STOPPED carried out: the reply is filled at once, or the request waits for the engine. -/
def State.loopStopped (s : State) (tag : Word) : State :=
  { s.blocksStopped with
    lsv := { s.blocksStopped.lsv with stopInProgress := s.drains }
    clp := { s.clp with
      notices := s.stopNotices
      inExec := if s.drains = true then some ⟨⟨11, tag, [0]⟩, .engine s.lsv.loop⟩ else none
      replies := s.clp.replies ++ [if s.drains = true then .pending
        else .ready ⟨11, tag, .ok, [BitVec.ofNat 16 s.lsv.loop.number, 0]⟩] } }

theorem State.enterStopped_started {s : State} (h : s.Ready [0]) (tag : Word) :
    (s.started 11 tag [0] .now).enterStopped = s.loopStopped tag := by
  rw [State.enterStopped_eq]
  have hidle : (s.started 11 tag [0] .now).blocksStopped.rce.state = .idle ↔ s.drains = false :=
    State.blocksStopped_idle_iff _
  cases hdrains : s.drains with
  | true =>
    rw [hdrains] at hidle
    unfold State.reportIdle State.loopStopped
    rw [if_neg (fun hboth => nomatch hidle.mp hboth.1), hdrains]
    rfl
  | false =>
    rw [State.reportIdle_of_waiting (hidle.mpr hdrains) rfl rfl]
    have hclp : (s.started 11 tag [0] .now).blocksStopped.clp =
      { (s.started 11 tag [0] (.engine s.lsv.loop)).clp with notices := s.stopNotices } := rfl
    refine (State.complete_started_notices (t := { (s.started 11 tag [0] .now).blocksStopped with
      lsv := { (s.started 11 tag [0] .now).blocksStopped.lsv with stopInProgress := false } }) h hclp _ _).trans ?_
    obtain ⟨-, -, hexec, -⟩ := h
    unfold State.loopStopped
    rw [hdrains, ← hexec]
    rfl

theorem exec_setLoop_of_ready {s : State} {w : Word} (h : s.Ready [w]) (tag : Word) :
    exec (.setLoop tag [w]) s = .next (State.setLoop [w] (s.started 11 tag [w] .now)).transmit :=
  request_of_ready h 11 tag

theorem exec_setLoop_stopped {s : State} (h : s.Ready [0]) (hloop : s.lsv.loop ≠ .stopped) (tag : Word) :
    exec (.setLoop tag [0]) s = .next (s.loopStopped tag).transmit := by
  rw [exec_setLoop_of_ready h, ← State.enterStopped_started h]
  have hset : State.setLoop [0] (s.started 11 tag [0] .now) =
      if LoopState.stopped = s.lsv.loop then _ else (s.started 11 tag [0] .now).enterStopped := rfl
  rw [hset, if_neg (Ne.symm hloop)]

/-! ### The statement -/

/-- The memory controller after the recorder's and the engine's stop. -/
theorem Mmc.stopped_eq (m : Mmc) (cut : Bool) (state : EngineState) (active : BankId) :
    { (m.recordCut cut).engineDropped (state == .busy) with active := active, swap := none } =
      { m with
        active := active, swap := none
        engineWaits := if state = .busy then none else m.engineWaits
        recorderWaits := if cut = true then none else m.recorderWaits
        port := m.port.map fun p =>
          if (p.who = .telemetry ∧ cut = true) ∨ (p.who = .engine ∧ state = .busy) then { p with dropped := true }
          else p } := by
  have hport : ((m.recordCut cut).engineDropped (state == .busy)).port = m.port.map fun p =>
      if (p.who = .telemetry ∧ cut = true) ∨ (p.who = .engine ∧ state = .busy) then { p with dropped := true }
      else p := by
    unfold Mmc.engineDropped Mmc.recordCut
    cases m.port with
    | none => cases cut <;> cases state <;> rfl
    | some p =>
      by_cases hbusy : state = .busy
      · cases cut <;> by_cases hwho : p.who = .telemetry <;> simp [hbusy, hwho]
      · cases cut <;> by_cases hwho : p.who = .telemetry <;> simp [hbusy, hwho]
  rw [← hport]
  cases cut <;> cases state <;> rfl

/-- The notices in the order in which they are raised, the apply's first. -/
theorem State.stopNotices_eq (s : State) :
    s.stopNotices =
      let n := if s.tfu.applyPending = true then s.raise (.paramsApplied .stop) else s
      match s.mmc.swap with
      | some k => (n.raise (.swapDone k none)).clp.notices
      | none => n.clp.notices := by
  unfold State.stopNotices State.applyNotices
  dsimp only
  cases s.mmc.swap <;> cases s.tfu.applyPending <;>
    simp [State.raise_eq, Clp.raised]

/-- Settles O34: the entry's stages, read off block by block, and the report's own equation. -/
theorem setLoopStopsEveryBlock : Obligations.SetLoopStopsEveryBlock := by
  refine ⟨fun s tag hready hloop => ?_, fun s => rfl⟩
  intro lost cut transfers drains
  have hlost : s.abandonCount = lost := s.abandonCount_eq_countP
  have hcut : s.holdsCopy = cut := rfl
  have htransfers : s.recorderStopped.transfers = transfers := by
    rw [State.transfers, State.enginePort_recorderStopped]
    rfl
  have hdrains : s.drains = drains := rfl
  refine ⟨s.loopStopped tag, exec_setLoop_stopped hready hloop tag, ?_, ?_, rfl, rfl, rfl, rfl, rfl, rfl, rfl, rfl, rfl,
    ?_, ?_, ?_, ?_, rfl, ?_, rfl, hready.1, rfl, rfl, rfl⟩
  · rw [← hlost]
    rfl
  · exact fun x => by cases x <;> rfl
  · rfl
  · exact Mmc.stopped_eq s.mmc s.holdsCopy s.rce.state (s.mmc.swap.getD s.mmc.active)
  · exact congrArg (fun b : Bool => if b = true then { s.rce with state := .draining }
      else if s.rce.state = .idle ∨ s.rce.state = .draining then s.rce else s.rce.released) htransfers
  · rfl
  · exact congrArg (fun ns : List Notice => ({ (s.loopStopped tag).clp with notices := ns } : Clp)) s.stopNotices_eq

end Sys2Proof.Machine
end

section
/-! PROOF. What each code on ring-in does in each ring state (R134 to R142, R148). -/

namespace Sys2Proof.Machine

/-! ### The commands that bring a code -/

theorem exec_of_ringCodeOf {i : Instr} {c : Code} (h : ringCodeOf i = some c) (s : State) :
    exec i s = ringAct (·.ringReceive c) s := by
  cases i with
  | ringHead => cases h; rfl
  | ringHeadWord w => cases h; rfl
  | ringMark => cases h; rfl
  | ringIdle => cases h; rfl
  | ringCode x => cases x <;> (cases h; rfl)
  | ringCodeViolation => cases h; rfl
  | _ => cases h

theorem ringAct_of_inReset {s : State} (h : s.inReset = true) (f : State → State) : ringAct f s = .next (f s) := by
  rw [ringAct, if_pos h]

theorem ringAct_of_not_inReset {s : State} (h : s.inReset = false) (f : State → State) :
    ringAct f s = .next (f s).settle := by
  rw [ringAct, if_neg (by simp [h])]

/-! ### Train heads (R134, R142, R148) -/

theorem Drp.breakHead_eq (d : Drp) :
    d.breakHead = { d with
      headOpen := false
      counts := { d.counts with badHeads := d.counts.badHeads + (if d.headOpen = true then 1 else 0) } } := by
  unfold Drp.breakHead
  cases hopen : d.headOpen with
  | true => rfl
  | false =>
    have hzero : d.counts.badHeads + (if false = true then 1 else 0) = d.counts.badHeads := BitVec.add_zero _
    rw [if_neg Bool.false_ne_true, hzero, ← hopen]

/-- The slices a head word discards are those before it. -/
theorem Drp.purge_eq (d : Drp) (n : Word) :
    d.purge n = { d with
      queue := d.queue.filter fun q => !frameBefore q.tag n
      counts := { d.counts with
        stale := d.counts.stale + BitVec.ofNat 32 (d.queue.countP fun q => frameBefore q.tag n) } } := by
  have hcount : d.queue.length - (d.queue.filter fun q => !frameBefore q.tag n).length =
      d.queue.countP fun q => frameBefore q.tag n := by
    rw [List.length_eq_countP_add_countP (fun q : Slice => frameBefore q.tag n), ← List.countP_eq_length_filter]
    simp
  unfold Drp.purge
  dsimp only
  rw [hcount]
  rfl

/-- What a code other than a MARK does to the reading of heads and the count of violations. -/
theorem Drp.readHead_countViolation_eq (d : Drp) (c : Code) : c ≠ .mark →
    (d.readHead c).countViolation c = { d with
      headOpen := c == .head || (c == .idle && d.headOpen)
      headSeen := d.headSeen || (c == .head && d.state == .listening)
      train := match c with
        | .head => none
        | .data w => if d.headOpen = true then some w else d.train
        | _ => d.train
      queue := match c with
        | .data w => if d.headOpen = true then d.queue.filter (fun q => !frameBefore q.tag w) else d.queue
        | _ => d.queue
      counts := { d.counts with
        stale := d.counts.stale + (match c with
          | .data w => if d.headOpen = true then
              BitVec.ofNat 32 (d.queue.countP fun q => frameBefore q.tag w) else 0
          | _ => 0)
        violations := d.counts.violations + (if c = .violation then 1 else 0)
        badHeads := d.counts.badHeads + (match c with
          | .idle | .data _ => 0
          | _ => if d.headOpen = true then 1 else 0) } } := by
  intro hc
  have hbeq (x y : Code) : (x == y) = decide (x = y) := rfl
  unfold Drp.readHead Drp.countViolation
  cases c with
  | idle => simp [hbeq]
  | mark => exact absurd rfl hc
  | data w =>
    cases hopen : d.headOpen with
    | true => simp [Drp.purge_eq, hbeq]
    | false =>
      have heta : d = { d with headOpen := false } := by rw [← hopen]
      simp [hbeq]
      exact heta
  | head => simp [Drp.breakHead_eq, hbeq]
  | openSym => simp [Drp.breakHead_eq, hbeq]
  | closeSym => simp [Drp.breakHead_eq, hbeq]
  | abort => simp [Drp.breakHead_eq, hbeq]
  | violation => simp [Drp.breakHead_eq, hbeq]

/-! ### Repeating (R136, R142) -/

theorem repeated_eq (c : Code) : repeated c = if c = .violation then .abort else c := by
  cases c <;> rfl

theorem State.repeatCode_eq (s : State) (c : Code) :
    s.repeatCode c = { s with
      ringOut := s.ringOut ++ s.drp.holding.toList, drp := { s.drp with holding := some c } } := rfl

/-- The port with the code's head read and its violation counted. -/
def State.codeRead (s : State) (c : Code) : State := s.updDrp fun d => (d.readHead c).countViolation c

theorem State.codeRead_of_ne_mark (s : State) {c : Code} (hc : c ≠ .mark) :
    (s.codeRead c).drp.state = s.drp.state ∧ (s.codeRead c).drp.leaveMark = s.drp.leaveMark := by
  rw [State.codeRead, State.updDrp_drp, Drp.readHead_countViolation_eq _ _ hc]
  exact ⟨rfl, rfl⟩

/-- A code is repeated, but for a MARK, and for the IDLE with which the port leaves. -/
theorem State.readingReceive_of_repeats {s : State} {c : Code} (hc : c ≠ .mark)
    (hleaves : s.drp.state = .leaving → c = .idle → s.drp.leaveMark = false) :
    s.readingReceive c = (s.codeRead c).repeatCode (repeated c) := by
  obtain ⟨hstate, hleave⟩ := s.codeRead_of_ne_mark hc
  have hread : (s.updDrp fun d => (d.readHead c).countViolation c) = s.codeRead c := rfl
  unfold State.readingReceive
  dsimp only
  rw [hread]
  split
  case h_4 h =>
    rw [if_neg (by rw [hleave, hleaves (hstate.symm.trans h) rfl]; exact Bool.false_ne_true)]
    rfl
  case h_5 => rfl
  all_goals exact absurd rfl hc

/-! ### Each state (R136 to R142) -/

section
variable {s : State} {c : Code}

theorem State.ringReceive_of_bypass (h : s.drp.state = .bypass) : s.ringReceive c = s.sendRing [c] := by
  unfold State.ringReceive
  rw [h]

theorem State.ringReceive_of_joining (h : s.drp.state = .joining) : s.ringReceive c = s.joiningReceive c := by
  unfold State.ringReceive
  rw [h]

theorem State.ringReceive_of_sending (h : s.drp.state = .sending) : s.ringReceive c = s.sendingReceive c := by
  unfold State.ringReceive
  rw [h]

theorem State.ringReceive_of_reading (h : s.drp.state = .listening ∨ s.drp.state = .onRing ∨ s.drp.state = .leaving) :
    s.ringReceive c = s.readingReceive c := by
  unfold State.ringReceive
  obtain h | h | h := h <;> rw [h]

theorem State.joiningReceive_of_enters (hc : c = .idle) (h : s.drp.markPassed = true) :
    s.joiningReceive c = { s with
      ringOut := s.ringOut ++ [.idle]
      drp := { s.drp with
        state := .listening, holding := some .idle, markPassed := false, headSeen := false
        headOpen := false, train := none } } := by
  subst hc
  exact if_pos ⟨rfl, h⟩

theorem State.joiningReceive_of_passes (h : c ≠ .idle ∨ s.drp.markPassed = false) :
    s.joiningReceive c = { s with
      ringOut := s.ringOut ++ [c], drp := { s.drp with markPassed := s.drp.markPassed || c == .mark } } := by
  have hstays : ¬(c = .idle ∧ s.drp.markPassed = true) := by
    rintro ⟨hc, hpassed⟩
    obtain h | h := h
    · exact h hc
    · exact absurd (h.symm.trans hpassed) Bool.false_ne_true
  unfold State.joiningReceive
  dsimp only
  rw [if_neg hstays]
  by_cases hmark : c = .mark
  · simp [hmark, State.sendRing, State.updDrp]
  · have hbeq : (c == .mark) = false := beq_false_of_ne hmark
    rw [if_neg hmark, hbeq, Bool.or_false]
    rfl

theorem State.sendingReceive_of_resetEnding (h : s.drp.resetEnding = true) : s.sendingReceive c = s := if_pos h

theorem State.sendingReceive_of_collides (hending : s.drp.resetEnding = false) (hmark : s.drp.markSent = false) :
    s.sendingReceive c = { s with drp := { s.drp with counts := { s.drp.counts with
      collisions := s.drp.counts.collisions + (if c = .idle then 0 else 1) } } } := by
  unfold State.sendingReceive
  rw [if_neg (by simp [hending]), if_pos hmark]
  by_cases hidle : c = .idle
  · have hzero (n : Count) : n + 0 = n := BitVec.add_zero n
    rw [if_pos hidle, if_pos hidle, hzero]
  · rw [if_neg hidle, if_neg hidle]
    rfl

end

/-- Settles O42: each ring state's own receiving, with the head read and the violation counted where the port
repeats. -/
theorem ringPortTakesEachCode : Obligations.RingPortTakesEachCode := by
  intro s i c hi
  refine ⟨fun hreset hbypass => ?_, fun hreset => ⟨fun hbypass => ?_, fun hjoining hpasses => ?_,
    fun hjoining hidle hpassed => ?_, fun hsending hending => ?_, fun hsending hending hmark => ?_,
    fun hreading hc hleaves => ?_⟩⟩
  · rw [exec_of_ringCodeOf hi, ringAct_of_inReset hreset, State.ringReceive_of_bypass hbypass]
    rfl
  all_goals rw [exec_of_ringCodeOf hi, ringAct_of_not_inReset hreset]
  · rw [State.ringReceive_of_bypass hbypass]
    rfl
  · rw [State.ringReceive_of_joining hjoining, State.joiningReceive_of_passes hpasses]
  · rw [State.ringReceive_of_joining hjoining, State.joiningReceive_of_enters hidle hpassed]
  · rw [State.ringReceive_of_sending hsending, State.sendingReceive_of_resetEnding hending]
  · rw [State.ringReceive_of_sending hsending, State.sendingReceive_of_collides hending hmark]
  · rw [State.ringReceive_of_reading hreading, State.readingReceive_of_repeats hc hleaves, State.codeRead,
      State.updDrp, Drp.readHead_countViolation_eq _ _ hc, State.repeatCode_eq, repeated_eq] <;> rfl

/-! ### Marks (R139, R140, R144) -/

section
variable {s : State}

theorem Drp.sliceToSend_of_found {d : Drp} {n : Word} {x : Slice} (htransmit : d.transmit = true)
    (htrain : d.train = some n) (hx : (d.queue.find? fun q => q.tag == n) = some x) : d.sliceToSend = some x := by
  simp [Drp.sliceToSend, htransmit, htrain, hx]

theorem Drp.sliceToSend_of_none {d : Drp}
    (h : d.transmit = false ∨ d.train = none ∨ ∀ n, d.train = some n → ∀ q ∈ d.queue, q.tag ≠ n) :
    d.sliceToSend = none := by
  unfold Drp.sliceToSend
  obtain h | h | h := h
  · rw [if_neg (by simp [h])]
  · rw [h]
    exact ite_self none
  · split
    · split
      · rename_i n hn
        simpa using h n hn
      · rfl
    · rfl

theorem State.markOnRing_of_some {x : Slice} (h : s.drp.sliceToSend = some x) :
    s.markOnRing = (s.sendRing s.drp.holding.toList).updDrp fun d =>
      { d with
        holding := none, state := .sending, queue := d.queue.erase x, train := none, leaveRequested := false
        unsent := x.frameCodes, markSent := false, counts := { d.counts with sent := d.counts.sent + 1 } } := by
  unfold State.markOnRing
  rw [h]

theorem State.markOnRing_of_none (h : s.drp.sliceToSend = none) :
    s.markOnRing = (s.repeatCode .mark).updDrp fun d => { d with train := none } := by
  unfold State.markOnRing
  rw [h]

theorem State.readingReceive_mark_onRing (h : s.drp.state = .onRing) :
    s.readingReceive .mark = (s.updDrp Drp.breakHead).markOnRing := by
  have hstate : (s.updDrp Drp.breakHead).drp.state = .onRing := by
    rw [State.updDrp_drp, Drp.breakHead_eq, h]
  have hread : (s.updDrp fun d => (d.readHead .mark).countViolation .mark) = s.updDrp Drp.breakHead := rfl
  unfold State.readingReceive
  dsimp only
  rw [hread, hstate]

theorem State.readingReceive_mark_listening (h : s.drp.state = .listening) :
    s.readingReceive .mark = (s.updDrp Drp.breakHead).markListening := by
  have hstate : (s.updDrp Drp.breakHead).drp.state = .listening := by
    rw [State.updDrp_drp, Drp.breakHead_eq, h]
  have hread : (s.updDrp fun d => (d.readHead .mark).countViolation .mark) = s.updDrp Drp.breakHead := rfl
  unfold State.readingReceive
  dsimp only
  rw [hread, hstate]

theorem State.readingReceive_mark_leaving (h : s.drp.state = .leaving) :
    s.readingReceive .mark =
      ((s.updDrp Drp.breakHead).repeatCode .mark).updDrp fun d => { d with train := none, leaveMark := true } := by
  have hstate : (s.updDrp Drp.breakHead).drp.state = .leaving := by
    rw [State.updDrp_drp, Drp.breakHead_eq, h]
  have hread : (s.updDrp fun d => (d.readHead .mark).countViolation .mark) = s.updDrp Drp.breakHead := rfl
  unfold State.readingReceive
  dsimp only
  rw [hread, hstate]

theorem State.readingReceive_idle_leaves (h : s.drp.state = .leaving) (hmark : s.drp.leaveMark = true) :
    s.readingReceive .idle = (s.sendRing s.drp.holding.toList).leftRing := by
  have hread : (s.updDrp fun d => (d.readHead .idle).countViolation .idle) = s := rfl
  unfold State.readingReceive
  dsimp only
  rw [hread, h, if_pos hmark]

end

/-- Settles O43: a MARK breaks an open head, then each state's own decision. -/
theorem marksDecideWhatIsSent : Obligations.MarksDecideWhatIsSent := by
  intro s hreset b
  have hb : s.drp.breakHead = b := s.drp.breakHead_eq
  have hbroken : s.updDrp Drp.breakHead = { s with drp := b } := congrArg (fun d => { s with drp := d }) hb
  have hmark : exec .ringMark s = .next (s.ringReceive .mark).settle :=
    ringAct_of_not_inReset hreset (·.ringReceive .mark)
  refine ⟨fun n x hstate htransmit htrain hx => ?_, fun hstate hnone => ?_, fun hstate hseen => ?_,
    fun hstate hseen => ?_, fun hstate => ?_, fun hstate hleave => ?_⟩
  · have hfound : b.sliceToSend = some x := Drp.sliceToSend_of_found htransmit htrain hx
    rw [hmark, State.ringReceive_of_reading (.inr (.inl hstate)), State.readingReceive_mark_onRing hstate,
      hbroken, State.markOnRing_of_some (s := { s with drp := b }) hfound]
    rfl
  · have hfound : b.sliceToSend = none := Drp.sliceToSend_of_none hnone
    rw [hmark, State.ringReceive_of_reading (.inr (.inl hstate)), State.readingReceive_mark_onRing hstate,
      hbroken, State.markOnRing_of_none (s := { s with drp := b }) hfound]
    rfl
  · rw [hmark, State.ringReceive_of_reading (.inl hstate), State.readingReceive_mark_listening hstate, hbroken, State.markListening, if_pos hseen]
    rfl
  · rw [hmark, State.ringReceive_of_reading (.inl hstate), State.readingReceive_mark_listening hstate, hbroken, State.markListening, if_neg (by simp [b, hseen])]
    rfl
  · rw [hmark, State.ringReceive_of_reading (.inr (.inr hstate)), State.readingReceive_mark_leaving hstate, hbroken]
    rfl
  · have hidle : exec .ringIdle s = .next (s.ringReceive .idle).settle :=
      ringAct_of_not_inReset hreset (·.ringReceive .idle)
    rw [hidle, State.ringReceive_of_reading (.inr (.inr hstate)), State.readingReceive_idle_leaves hstate hleave]
    rfl

end Sys2Proof.Machine
end

section
/-! PROOF. The end of a send (R141, R150, R180) and the ring's requests (R135, R138, R143, R145). -/

namespace Sys2Proof.Machine

/-! ### The end of a send -/

section
variable {s : State}

theorem State.sendFreshMark_of_idle (h : s.drp.state ≠ .sending ∨ s.drp.markSent = true) : s.sendFreshMark = s := by
  refine if_neg ?_
  rintro ⟨hstate, hmark⟩
  obtain h | h := h
  · exact h hstate
  · exact absurd (hmark.symm.trans h) Bool.false_ne_true

theorem State.sendFreshMark_of_sending (h : s.drp.state = .sending) (hmark : s.drp.markSent = false) :
    s.sendFreshMark = { s with
      ringOut := s.ringOut ++ s.drp.unsent ++ [.mark]
      drp := if s.drp.resetEnding = true then s.drp.toBypass else { s.drp with unsent := [], markSent := true } } := by
  unfold State.sendFreshMark
  rw [if_pos ⟨h, hmark⟩]
  cases s.drp.resetEnding <;> simp [State.sendRing, State.updDrp]

theorem exec_freshMarkSent (h : s.inReset = false) : exec .freshMarkSent s = .next s.sendFreshMark.settle :=
  act_of_not_inReset h State.sendFreshMark

/-- The code after the fresh MARK where a leave is requested. -/
theorem State.sendingReceive_of_leaves {c : Code} (hending : s.drp.resetEnding = false) (hmark : s.drp.markSent = true)
    (hleave : s.drp.leaveRequested = true) : s.sendingReceive c = (s.sendRing [c]).leftRing := by
  unfold State.sendingReceive
  rw [if_neg (by simp [hending]), if_neg (by simp [hmark]), if_pos hleave]

/-- The port back in ON_RING after its own train (R141). -/
def State.backOnRing (s : State) : State :=
  { s with drp := { s.drp with state := .onRing, holding := none, markSent := false } }

/-- The code after the fresh MARK where none is requested is taken in ON_RING. -/
theorem State.sendingReceive_of_stays {c : Code} (hending : s.drp.resetEnding = false) (hmark : s.drp.markSent = true)
    (hleave : s.drp.leaveRequested = false) :
    s.sendingReceive c = s.backOnRing.ringReceive c := by
  unfold State.sendingReceive
  rw [if_neg (by simp [hending]), if_neg (by simp [hmark]), if_neg (by simp [hleave]),
    State.ringReceive_of_reading (.inr (.inl rfl))]
  rfl

end

theorem Slice.frameCodes_eq (x : Slice) : x.frameCodes =
    let ws : List Word := BitVec.ofNat 16 ((if x.held = true then 32768 else 0) + x.settings.id % 8) :: x.tag ::
      BitVec.ofNat 16 x.settings.firstGlobal :: BitVec.ofNat 16 x.settings.actuators :: x.words
    .openSym :: ws.map .data ++ [.data (ws.foldl crcWord 0xFFFF), .closeSym] := by
  simp [Slice.frameCodes, packetCodes, Slice.frameWords, word1, crcOf]

/-- Settles O44: the frame's codes, FRESH_MARK_SENT's two cases, and the code that ends SENDING. -/
theorem sendingEndsWithAFreshMark : Obligations.SendingEndsWithAFreshMark := by
  refine ⟨Slice.frameCodes_eq, fun _ => rfl, fun s hreset => ⟨fun hidle => ?_, fun hsending hmark => ?_,
    fun i c hi hsending hending hmark => ⟨fun hleave => ?_, fun hleave => ?_⟩⟩⟩
  · rw [exec_freshMarkSent hreset, State.sendFreshMark_of_idle hidle]
  · rw [exec_freshMarkSent hreset, State.sendFreshMark_of_sending hsending hmark]
  · rw [exec_of_ringCodeOf hi, ringAct_of_not_inReset hreset, State.ringReceive_of_sending hsending,
      State.sendingReceive_of_leaves hending hmark hleave]
    rfl
  · have hstayed : exec i s.backOnRing = .next (s.backOnRing.ringReceive c).settle :=
      (exec_of_ringCodeOf hi s.backOnRing).trans (ringAct_of_not_inReset (s := s.backOnRing) hreset _)
    refine Eq.trans ?_ hstayed.symm
    rw [exec_of_ringCodeOf hi, ringAct_of_not_inReset hreset, State.ringReceive_of_sending hsending,
      State.sendingReceive_of_stays hending hmark hleave]

/-! ### RING_JOIN, RING_LEAVE, RING_TRANSMIT (R138, R143, R145) -/

theorem exec_ringJoin_of_ready {s : State} (h : s.Ready []) (tag : Word) :
    exec (.ringJoin tag []) s = .next (State.transmit
      (if s.drp.state = .bypass then
        State.answered { s with drp := { s.drp with state := .joining, markPassed := false } } 25 tag .accepted []
      else s.answered 25 tag .wrongState [])) := by
  refine (request_of_ready h 25 tag).trans (congrArg (Host.Outcome.next ∘ State.transmit) ?_)
  exact ite_congr rfl (fun _ => State.complete_eq_answered h rfl rfl) fun _ => State.complete_started h _ _ _ _ _

section
variable {s : State}

theorem State.ringLeave_of_refused (h : s.drp.state = .bypass ∨ s.drp.state = .leaving ∨
    (s.drp.state = .sending ∧ s.drp.leaveRequested = true)) :
    State.ringLeave [] s = s.complete .wrongState [] := by
  unfold State.ringLeave
  dsimp only
  obtain h | h | ⟨h, hleave⟩ := h
  · rw [h]
  · rw [h]
  · rw [h, if_pos hleave]

theorem State.ringLeave_of_sending (h : s.drp.state = .sending) (hleave : s.drp.leaveRequested = false) :
    State.ringLeave [] s = (s.updDrp fun d => { d with leaveRequested := true }).complete .accepted [] := by
  unfold State.ringLeave
  dsimp only
  rw [h, if_neg (by simp [hleave])]

theorem State.ringLeave_of_reading (h : s.drp.state = .listening ∨ s.drp.state = .onRing) :
    State.ringLeave [] s =
      (s.updDrp fun d => { d with state := .leaving, leaveMark := false, headSeen := false }).complete .accepted [] := by
  unfold State.ringLeave
  dsimp only
  obtain h | h := h <;> rw [h]

theorem State.ringLeave_of_joining (h : s.drp.state = .joining) :
    State.ringLeave [] s = s.leftRing.complete .accepted [] := by
  unfold State.ringLeave
  dsimp only
  rw [h]

/-- A notice raised does not decide whether a request may start. -/
theorem State.Ready.leftRing {payload : List Word} (h : s.Ready payload) : s.leftRing.Ready payload := by
  rw [State.leftRing, State.raise_eq]
  exact h

theorem State.leftRing_started (code : Nat) (tag : Word) (payload : List Word) (job : Job) :
    (s.started code tag payload job).leftRing = s.leftRing.started code tag payload job := by
  rw [State.leftRing, State.leftRing, State.raise_eq, State.raise_eq]
  rfl

end

/-- What RING_LEAVE does in each ring state. -/
theorem exec_ringLeave_of_ready {s : State} (h : s.Ready []) (tag : Word) :
    (s.drp.state = .bypass ∨ s.drp.state = .leaving ∨
        (s.drp.state = .sending ∧ s.drp.leaveRequested = true) →
      exec (.ringLeave tag []) s = .next (s.answered 26 tag .wrongState []).transmit) ∧
    (s.drp.state = .sending → s.drp.leaveRequested = false →
      exec (.ringLeave tag []) s = .next (State.transmit (State.answered
        { s with drp := { s.drp with leaveRequested := true } } 26 tag .accepted []))) ∧
    (s.drp.state = .listening ∨ s.drp.state = .onRing →
      exec (.ringLeave tag []) s = .next (State.transmit (State.answered
        { s with drp := { s.drp with state := .leaving, leaveMark := false, headSeen := false } }
        26 tag .accepted []))) ∧
    (s.drp.state = .joining →
      exec (.ringLeave tag []) s = .next (s.leftRing.answered 26 tag .accepted []).transmit) := by
  have hexec : exec (.ringLeave tag []) s = .next (State.ringLeave [] (s.started 26 tag [] .now)).transmit :=
    request_of_ready h 26 tag
  have hanswers {t : State} (ht : State.ringLeave [] (s.started 26 tag [] .now) = t) :
      exec (.ringLeave tag []) s = .next t.transmit := ht ▸ hexec
  refine ⟨fun hstate => hanswers ?_, fun hstate hleave => hanswers ?_, fun hstate => hanswers ?_,
    fun hstate => hanswers ?_⟩
  · exact (State.ringLeave_of_refused (s := s.started 26 tag [] .now) hstate).trans (State.complete_started h _ _ _ _ _)
  · exact (State.ringLeave_of_sending (s := s.started 26 tag [] .now) hstate hleave).trans (State.complete_eq_answered h rfl rfl)
  · exact (State.ringLeave_of_reading (s := s.started 26 tag [] .now) hstate).trans (State.complete_eq_answered h rfl rfl)
  · rw [State.ringLeave_of_joining (s := s.started 26 tag [] .now) hstate, State.leftRing_started, State.complete_started h.leftRing]

theorem exec_ringTransmit_of_ready {s : State} {v : Word} (h : s.Ready [v]) (tag : Word) :
    exec (.ringTransmit tag [v]) s = .next (State.transmit
      (if 1 < v.toNat then s.answered 27 tag .invalid []
      else State.answered { s with drp := { s.drp with transmit := decide (v = 0) } } 27 tag .ok [])) := by
  refine (request_of_ready h 27 tag).trans (congrArg (Host.Outcome.next ∘ State.transmit) ?_)
  by_cases hv : 1 < v.toNat
  · rw [if_pos hv, ← State.complete_started h 27 tag .now]
    simp only [State.carryOut, State.ringTransmit, enableOfNumber_of_gt hv]
  · rw [if_neg hv]
    simp only [State.carryOut, State.ringTransmit, enableOfNumber_of_le (Nat.le_of_not_lt hv)]
    exact State.complete_eq_answered h rfl rfl

/-! ### SET_SLICE (R135) -/

theorem exec_setSlice_of_ready {s : State} {id a first : Word} (h : s.Ready [id, a, first]) (tag : Word) :
    let short := (List.range 64).find? fun g =>
      (s.entry s.mmc.active g).present &&
        decide ((s.entry s.mmc.active g).pages < (a.toNat + 7) / 8)
    exec (.setSlice tag [id, a, first]) s = .next (State.transmit
      (if s.running = true ∨ s.tmr.enabled = true then s.answered 10 tag .wrongState []
      else if 7 < id.toNat ∨ a.toNat < 1 ∨ 1024 < a.toNat ∨ 65536 < first.toNat + a.toNat then
        s.answered 10 tag .invalid []
      else match short with
        | some g => s.answered 10 tag .length [BitVec.ofNat 16 g]
        | none => State.answered { s with drp := { s.drp with
            settings := ⟨id.toNat, a.toNat, first.toNat⟩ } } 10 tag .ok [])) := by
  intro short
  have hshort : ((s.started 10 tag [id, a, first] .now).bank s.mmc.active).tooShort (ceilDiv a.toNat 8) = short := rfl
  refine (request_of_ready h 10 tag).trans (congrArg (Host.Outcome.next ∘ State.transmit) ?_)
  refine ite_congr rfl (fun _ => State.complete_started h _ _ _ _ _) fun _ => ?_
  by_cases hrange : 7 < id.toNat ∨ a.toNat < 1 ∨ 1024 < a.toNat
  · rw [if_pos hrange, if_pos (by omega)]
    exact State.complete_started h _ _ _ _ _
  · rw [if_neg hrange]
    refine ite_congr (propext (by omega)) (fun _ => State.complete_started h _ _ _ _ _) fun _ => ?_
    clear_value short
    change (match ((s.started 10 tag [id, a, first] .now).bank s.mmc.active).tooShort (ceilDiv a.toNat 8) with
      | some g => _
      | none => _) = _
    rw [hshort]
    cases short with
    | some g => exact State.complete_started h _ _ _ _ _
    | none => exact State.complete_eq_answered h rfl rfl

/-- Settles O45: each request that starts as it arrives, RING_LEAVE by the port's state. -/
theorem ringRequestsActByState : Obligations.RingRequestsActByState :=
  ⟨fun _ tag h => exec_ringJoin_of_ready h tag, fun _ tag h => exec_ringLeave_of_ready h tag,
    fun _ tag _ h => exec_ringTransmit_of_ready h tag, fun _ tag _ _ _ h => exec_setSlice_of_ready h tag⟩

end Sys2Proof.Machine
end

section
/-! PROOF. Requests of a wrong payload length and of no kind (R75, R169, R181). -/

namespace Sys2Proof.Machine

/-! ### The request rows -/

theorem unknownCode_iff (code : Nat) : unknownCode code = true ↔ 32 ≤ code ∧ code < 256 := by
  simp [unknownCode]

/-- A request row brings its request; an UNKNOWN_REQUEST does where its code names no kind. -/
theorem exec_of_request? {i : Instr} {code : Nat} {tag : Word} {payload : List Word} (hcode : i.codeUnknown = true)
    (h : i.request? = some (code, tag, payload)) (s : State) : exec i s = request code tag payload s := by
  cases i with
  | unknownRequest c t p =>
    cases h
    exact if_pos ((unknownCode_iff code).mp hcode)
  | _ => cases h <;> rfl

/-! ### Fixed fields alone (R169, R181) -/

/-- A request with fixed fields alone whose payload has another length. -/
theorem State.carryOut_of_wrong_length {code n : Nat} {payload : List Word} (h : fixedWords code = some n)
    (hlen : payload.length ≠ n) (s : State) : State.carryOut code payload s = s.complete .badRequest [] := by
  unfold fixedWords at h
  split at h
  case h_29 => cases h
  all_goals
    cases h
    simp only [State.carryOut, State.identify, State.readStatus, State.readCounters, State.clearCounters,
      State.setNotices, State.requestReset, State.setSensor, State.readLinkStatus, State.readFrameRecords,
      State.setTiming, State.setSlice, State.setLoop, State.setTrip, State.writeDirectory, State.setBankShift,
      State.readMatrix, State.swapBank, State.cancelSwap, State.applyParameters, State.cancelApply,
      State.readActuators, State.ringJoin, State.ringLeave, State.ringTransmit, State.setTelemetry,
      State.telemetryEnable, State.readTelemetry, State.releaseTelemetry]
    split
    · exact absurd rfl hlen
    · rfl

theorem State.carryOut_of_unknown {code : Nat} (h : 32 ≤ code) (payload : List Word) (s : State) :
    State.carryOut code payload s = s.complete .badRequest [] := by
  obtain ⟨n, rfl⟩ : ∃ n, code = n + 32 := ⟨code - 32, by omega⟩
  rfl

/-! ### Lengths given by a count -/

section
variable (s : State) (payload : List Word)

theorem State.writeMatrix_of_wrong_length (h : payload.length < 4 ∨ 1028 < payload.length) :
    State.writeMatrix payload s = s.complete .badRequest [] := by
  unfold State.writeMatrix
  split
  · rw [List.length_cons, List.length_cons, List.length_cons, List.length_cons] at h
    exact if_pos (by omega)
  · rfl

theorem State.writeActuators_of_wrong_length
    (h : payload.length < 2 ∨ payload.length ≠ 2 + 6 * (payload.getD 1 0).toNat) :
    State.writeActuators payload s = s.complete .badRequest [] := by
  unfold State.writeActuators
  split
  · rw [List.length_cons, List.length_cons, List.getD_cons_succ, List.getD_cons_zero] at h
    exact if_pos (by omega)
  · rfl

theorem State.writePairs_of_wrong_length
    (h : payload.length < 3 ∨ payload.length ≠ 3 + 3 * (payload.getD 1 0).toNat) :
    State.writePairs payload s = s.complete .badRequest [] := by
  unfold State.writePairs
  split
  · rw [List.length_cons, List.length_cons, List.length_cons, List.getD_cons_succ, List.getD_cons_zero] at h
    exact if_pos (by omega)
  · rfl

theorem State.presetCommands_of_wrong_length
    (h : payload.length < 2 ∨ payload.length ≠ 2 + (payload.getD 1 0).toNat) :
    State.presetCommands payload s = s.complete .badRequest [] := by
  unfold State.presetCommands
  split
  · rw [List.length_cons, List.length_cons, List.getD_cons_succ, List.getD_cons_zero] at h
    exact if_pos (by omega)
  · rfl

end

/-! ### WRITE_MATRIX past its first checks (R75) -/

theorem rowFields_of_in_range {bank block first count : Word} (hbank : bank.toNat ≤ 1) (hblock : block.toNat ≤ 63)
    (hfirst : first.toNat ≤ 1023) (hlow : 1 ≤ count.toNat) (hhigh : count.toNat ≤ 4) :
    rowFields bank block first count = some (if bank = 0 then .zero else .one) :=
  (if_pos ⟨hblock, hfirst, hlow, hhigh⟩).trans (BankId.ofNumber_of_le hbank)

/-- The checks of WRITE_MATRIX that follow those of its fields (R75). -/
theorem State.writeMatrix_of_fields {s : State} {bank block first count : Word} {coefficients : List Word} {k : BankId}
    (hlen : coefficients.length ≤ 1024) (hk : rowFields bank block first count = some k) :
    State.writeMatrix (bank :: block :: first :: count :: coefficients) s =
      if k = s.mmc.active then s.complete .writeProtected []
      else if s.mmc.swap = some k then s.complete .pending []
      else if (s.entry k block.toNat).present = false then s.complete .notPresent []
      else if (s.entry k block.toNat).rowsOutside first.toNat count.toNat then s.complete .length []
      else if coefficients.length ≠ 256 * count.toNat then s.complete .badRequest []
      else s.transfer (writeBursts (s.entry k block.toNat) k block.toNat first.toNat count.toNat coefficients)
        .writeMatrix := by
  unfold State.writeMatrix
  dsimp only
  rw [if_neg (by omega)]
  simp only [hk]
  by_cases hactive : k = s.mmc.active
  · simp only [Mmc.protection_of_active hactive, if_pos hactive]
  by_cases hpending : s.mmc.swap = some k
  · simp only [Mmc.protection_of_pending hactive hpending, if_neg hactive, if_pos hpending]
  simp only [Mmc.protection_of_free hactive hpending, if_neg hactive, if_neg hpending]

theorem DirEntry.rowsOutside_iff (e : DirEntry) (first count : Nat) :
    e.rowsOutside first count = true ↔ e.pages * 4096 < (first + count) * 512 := by
  simp [DirEntry.rowsOutside]

/-! ### The statement -/

section
variable {s : State} {i : Instr} {code : Nat} {tag : Word} {payload : List Word}

/-- A request row that is answered BAD_REQUEST as it is carried out. -/
theorem exec_of_badRequest (hcode : i.codeUnknown = true) (hi : i.request? = some (code, tag, payload))
    (h : s.Ready payload)
    (hbad : ∀ t, State.carryOut code payload t = t.complete .badRequest []) :
    exec i s = .next (s.answered code tag .badRequest []).transmit := by
  rw [exec_of_request? hcode hi, request_of_ready h, hbad, State.transmit_refused h]

end

/-- Settles O56: the row's request, and the block's own match on the payload. -/
theorem wrongLengthsReachNoBlock : Obligations.WrongLengthsReachNoBlock := by
  refine ⟨fun s i code n tag payload hi hrequest hfixed hlen h => ?_, fun s code tag payload hlow hhigh h => ?_,
    fun s tag payload h => ⟨fun hlen => ?_, fun hlen => ?_, fun hlen => ?_, fun hlen => ?_⟩, ?_⟩
  · rw [Instr.wellFormed, Bool.and_eq_true] at hi
    exact exec_of_badRequest hi.2 hrequest h (State.carryOut_of_wrong_length hfixed hlen)
  · exact exec_of_badRequest ((unknownCode_iff code).mpr ⟨hlow, hhigh⟩) rfl h (State.carryOut_of_unknown hlow payload)
  · exact exec_of_badRequest rfl rfl h fun t => State.writeMatrix_of_wrong_length t payload hlen
  · exact exec_of_badRequest rfl rfl h fun t => State.writeActuators_of_wrong_length t payload hlen
  · exact exec_of_badRequest rfl rfl h fun t => State.writePairs_of_wrong_length t payload hlen
  · exact exec_of_badRequest rfl rfl h fun t => State.presetCommands_of_wrong_length t payload hlen
  · intro s tag bank block first count coefficients h hcount k hbank hblock hfirst hlow hhigh hactive hswap hpresent hrows
    refine (request_of_ready h 15 tag).trans (congrArg Host.Outcome.next ?_)
    refine Eq.trans (congrArg State.transmit ?_) (State.transmit_refused h .badRequest [])
    by_cases hlen : coefficients.length ≤ 1024
    · refine (State.writeMatrix_of_fields hlen (rowFields_of_in_range hbank hblock hfirst hlow hhigh)).trans ?_
      have hpresent' : ¬(s.entry k block.toNat).present = false := by simp [hpresent]
      have hrows' : ¬(s.entry k block.toNat).rowsOutside first.toNat count.toNat = true := by
        rw [DirEntry.rowsOutside_iff]
        omega
      exact (if_neg hactive).trans ((if_neg hswap).trans ((if_neg hpresent').trans
        ((if_neg hrows').trans (if_pos hcount))))
    · refine State.writeMatrix_of_wrong_length (s.started 15 tag (bank :: block :: first :: count :: coefficients) .now)
        (bank :: block :: first :: count :: coefficients) (.inr ?_)
      rw [List.length_cons, List.length_cons, List.length_cons, List.length_cons]
      omega

end Sys2Proof.Machine
end

section
/-! PROOF. The filter's requests: the staged parameters (R101 to R107) and the preset (R117). -/

namespace Sys2Proof.Machine

/-! ### Records and pairs in a payload (R101, R103, R181) -/

/-- Six words of an actuator record at the head of a payload. -/
theorem paramsOf_cons (en g l1 l0 lo hi : Word) (rest : List Word) :
    paramsOf (en :: g :: l1 :: l0 :: lo :: hi :: rest) =
      if en.toNat ≤ 1 ∧ natOf2 l1 l0 ≤ 65536 ∧ lo.toInt ≤ hi.toInt then
        (paramsOf rest).map (⟨decide (en = 1), g, natOf2 l1 l0, lo, hi⟩ :: ·)
      else none := by
  rw [paramsOf]
  by_cases hen : en.toNat ≤ 1
  · rw [flagOfNumber_of_le hen]
    cases paramsOf rest with
    | none => simp
    | some ps => simp [hen]
  · rw [flagOfNumber_of_gt (by omega), if_neg (by omega)]

/-- Three words of a pair at the head of a payload. -/
theorem pairsOf_cons (f g d : Word) (rest : List Word) :
    pairsOf (f :: g :: d :: rest) =
      if f.toNat ≤ 1023 ∧ g.toNat ≤ 1023 ∧ f.toNat ≠ g.toNat then
        (pairsOf rest).map (⟨f.toNat, g.toNat, d.toNat⟩ :: ·)
      else none := by
  rw [pairsOf]
  cases pairsOf rest with
  | none => simp
  | some ps => rfl

/-- The words of record `i` in a payload of records of `m` words. -/
def recordWords (m : Nat) (records : List Word) (i : Nat) : List Word := (records.drop (m * i)).take m

theorem recordWords_getD {m j : Nat} (hj : j < m) (records : List Word) (i : Nat) :
    (recordWords m records i).getD j 0 = records.getD (m * i + j) 0 := by
  rw [recordWords, List.getD_eq_getElem?_getD, List.getElem?_take_of_lt hj, List.getElem?_drop,
    ← List.getD_eq_getElem?_getD]

theorem recordWords_zero {m : Nat} {head : List Word} (h : head.length = m) (rest : List Word) :
    recordWords m (head ++ rest) 0 = head := by
  rw [recordWords, Nat.mul_zero, List.drop_zero, ← h, List.take_left]

theorem recordWords_succ {m : Nat} {head : List Word} (h : head.length = m) (rest : List Word) (i : Nat) :
    recordWords m (head ++ rest) (i + 1) = recordWords m rest i := by
  rw [recordWords, recordWords, Nat.mul_succ, Nat.add_comm, ← List.drop_drop, ← h, List.drop_left]

/-- A reader of records of `m` words, none of them bad: it finds none exactly where one is bad, and each record's
value in its place. -/
theorem reader_spec {β : Type} {read : List Word → Option (List β)} {m : Nat} {bad : List Word → Bool}
    {value : List Word → β} (hnil : read [] = some [])
    (hcons : ∀ head rest : List Word, head.length = m →
      read (head ++ rest) = if bad head then none else (read rest).map (value head :: ·))
    (n : Nat) (records : List Word) (hlen : records.length = m * n) :
    (read records = none ↔ ∃ i, i < n ∧ bad (recordWords m records i) = true) ∧
      ∀ ps, read records = some ps → ps.length = n ∧ ∀ i, i < n → ps[i]? = some (value (recordWords m records i)) := by
  induction n generalizing records with
  | zero =>
    obtain rfl : records = [] := List.eq_nil_of_length_eq_zero (by omega)
    rw [hnil]
    refine ⟨⟨fun h => (nomatch h), fun ⟨i, hi, _⟩ => absurd hi (Nat.not_lt_zero i)⟩, fun ps hps => ?_⟩
    obtain rfl := Option.some.inj hps
    exact ⟨rfl, fun i hi => absurd hi (Nat.not_lt_zero i)⟩
  | succ n ih =>
    have hhead : (records.take m).length = m := by
      rw [List.length_take, hlen, Nat.mul_succ]
      omega
    have hrest : (records.drop m).length = m * n := by
      rw [List.length_drop, hlen, Nat.mul_succ]
      omega
    obtain ⟨hnone, hsome⟩ := ih _ hrest
    rw [← List.take_append_drop m records]
    generalize records.take m = head at hhead
    generalize records.drop m = rest at hnone hsome
    rw [hcons head rest hhead]
    have hex : (∃ i, i < n + 1 ∧ bad (recordWords m (head ++ rest) i) = true) ↔
        bad head = true ∨ ∃ i, i < n ∧ bad (recordWords m rest i) = true := by
      rw [Nat.exists_lt_succ_left, recordWords_zero hhead]
      simp only [recordWords_succ hhead]
    rw [hex]
    by_cases hbad : bad head = true
    · rw [if_pos hbad]
      exact ⟨⟨fun _ => .inl hbad, fun _ => rfl⟩, fun ps hps => nomatch hps⟩
    · rw [if_neg hbad, Option.map_eq_none_iff, hnone, or_iff_right hbad]
      refine ⟨Iff.rfl, fun ps hps => ?_⟩
      obtain ⟨qs, hqs, rfl⟩ := Option.map_eq_some_iff.mp hps
      obtain ⟨hlength, hvalues⟩ := hsome qs hqs
      refine ⟨by rw [List.length_cons, hlength], fun i hi => ?_⟩
      cases i with
      | zero => rw [recordWords_zero hhead, List.getElem?_cons_zero]
      | succ i =>
        rw [recordWords_succ hhead, List.getElem?_cons_succ]
        exact hvalues i (Nat.lt_of_succ_lt_succ hi)

/-- An actuator record that R101 refuses. -/
def badParams (ws : List Word) : Bool :=
  decide (1 < (ws.getD 0 0).toNat ∨ 65536 < natOf2 (ws.getD 2 0) (ws.getD 3 0) ∨
    (ws.getD 5 0).toInt < (ws.getD 4 0).toInt)

/-- The parameters that six words give. -/
def paramsValue (ws : List Word) : ActuatorParams :=
  ⟨decide (ws.getD 0 0 = 1), ws.getD 1 0, natOf2 (ws.getD 2 0) (ws.getD 3 0), ws.getD 4 0, ws.getD 5 0⟩

theorem paramsOf_append (head rest : List Word) (h : head.length = 6) :
    paramsOf (head ++ rest) = if badParams head then none else (paramsOf rest).map (paramsValue head :: ·) := by
  match head, h with
  | [en, g, l1, l0, lo, hi], _ =>
    have hcheck : (en.toNat ≤ 1 ∧ natOf2 l1 l0 ≤ 65536 ∧ lo.toInt ≤ hi.toInt) ↔
        ¬badParams [en, g, l1, l0, lo, hi] = true := by
      rw [badParams, decide_eq_true_iff]
      simp only [List.getD_cons_zero, List.getD_cons_succ]
      omega
    exact (paramsOf_cons en g l1 l0 lo hi rest).trans
      ((ite_congr (propext hcheck) (fun _ => rfl) fun _ => rfl).trans (ite_not _ _ _))

/-- A pair that R103 refuses. -/
def badPair (ws : List Word) : Bool :=
  decide (1023 < (ws.getD 0 0).toNat ∨ 1023 < (ws.getD 1 0).toNat ∨ (ws.getD 0 0).toNat = (ws.getD 1 0).toNat)

/-- The pair that three words give. -/
def pairValue (ws : List Word) : ActuatorPair := ⟨(ws.getD 0 0).toNat, (ws.getD 1 0).toNat, (ws.getD 2 0).toNat⟩

theorem pairsOf_append (head rest : List Word) (h : head.length = 3) :
    pairsOf (head ++ rest) = if badPair head then none else (pairsOf rest).map (pairValue head :: ·) := by
  obtain ⟨f, g, d, rfl⟩ : ∃ f g d, head = [f, g, d] := by
    match head, h with
    | [f, g, d], _ => exact ⟨f, g, d, rfl⟩
  have hcheck : (f.toNat ≤ 1023 ∧ g.toNat ≤ 1023 ∧ f.toNat ≠ g.toNat) ↔ ¬badPair [f, g, d] = true := by
    rw [badPair, decide_eq_true_iff]
    simp only [List.getD_cons_zero, List.getD_cons_succ]
    omega
  exact (pairsOf_cons f g d rest).trans ((ite_congr (propext hcheck) (fun _ => rfl) fun _ => rfl).trans (ite_not _ _ _))

theorem paramsOf_spec (n : Nat) (records : List Word) (hlen : records.length = 6 * n) :
    let w (i j : Nat) : Word := records.getD (6 * i + j) 0
    let leak (i : Nat) : Nat := 65536 * (w i 2).toNat + (w i 3).toNat
    (paramsOf records = none ↔
      ∃ i, i < n ∧ (1 < (w i 0).toNat ∨ 65536 < leak i ∨ (w i 5).toInt < (w i 4).toInt)) ∧
    ∀ ps, paramsOf records = some ps → ps.length = n ∧ ∀ i, i < n →
      ps[i]? = some ⟨decide (w i 0 = 1), w i 1, leak i, w i 4, w i 5⟩ := by
  intro w leak
  have hread := reader_spec (read := paramsOf) rfl paramsOf_append n records hlen
  have hwords (i : Nat) {j : Nat} (hj : j < 6) : (recordWords 6 records i).getD j 0 = w i j :=
    recordWords_getD hj records i
  have hleak (i : Nat) : natOf2 (w i 2) (w i 3) = leak i := rfl
  simpa only [badParams, paramsValue, hleak, decide_eq_true_iff, hwords _ (show 0 < 6 by decide),
    hwords _ (show 1 < 6 by decide), hwords _ (show 2 < 6 by decide), hwords _ (show 3 < 6 by decide),
    hwords _ (show 4 < 6 by decide), hwords _ (show 5 < 6 by decide)] using hread

theorem pairsOf_spec (n : Nat) (records : List Word) (hlen : records.length = 3 * n) :
    let w (i j : Nat) : Nat := (records.getD (3 * i + j) 0).toNat
    (pairsOf records = none ↔ ∃ i, i < n ∧ (1023 < w i 0 ∨ 1023 < w i 1 ∨ w i 0 = w i 1)) ∧
    ∀ ps, pairsOf records = some ps → ps.length = n ∧ ∀ i, i < n → ps[i]? = some ⟨w i 0, w i 1, w i 2⟩ := by
  intro w
  have hread := reader_spec (read := pairsOf) rfl pairsOf_append n records hlen
  have hwords (i : Nat) {j : Nat} (hj : j < 3) : ((recordWords 3 records i).getD j 0).toNat = w i j :=
    congrArg BitVec.toNat (recordWords_getD hj records i)
  simpa only [badPair, pairValue, decide_eq_true_iff, hwords _ (show 0 < 3 by decide),
    hwords _ (show 1 < 3 by decide), hwords _ (show 2 < 3 by decide)] using hread

/-! ### WRITE_ACTUATORS and WRITE_PAIRS -/

theorem exec_writeActuators_of_ready {s : State} {first n : Word} {records : List Word}
    (hlen : records.length = 6 * n.toNat) (h : s.Ready (first :: n :: records)) (tag : Word) :
    exec (.writeActuators tag (first :: n :: records)) s = .next (State.transmit
      (if s.tfu.applyPending = true then s.answered 19 tag .pending []
      else if 1023 < first.toNat ∨ n.toNat < 1 ∨ 128 < n.toNat ∨ 1024 < first.toNat + n.toNat then
        s.answered 19 tag .invalid []
      else match paramsOf records with
        | none => s.answered 19 tag .invalid []
        | some ps =>
          State.answered { s with tfu := { s.tfu with shadow := writeFrom s.tfu.shadow first.toNat ps } }
            19 tag .ok [])) := by
  refine (request_of_ready h 19 tag).trans (congrArg (Host.Outcome.next ∘ State.transmit) ?_)
  refine Eq.trans (if_neg (Classical.not_not.mpr hlen)) ?_
  refine ite_congr rfl (fun _ => State.complete_started h _ _ _ _ _) fun _ => ?_
  refine ite_congr rfl (fun _ => State.complete_started h _ _ _ _ _) fun _ => ?_
  cases paramsOf records with
  | none => exact State.complete_started h _ _ _ _ _
  | some ps => exact State.complete_eq_answered h rfl rfl

theorem exec_writePairs_of_ready {s : State} {first n count : Word} {records : List Word}
    (hlen : records.length = 3 * n.toNat) (h : s.Ready (first :: n :: count :: records)) (tag : Word) :
    exec (.writePairs tag (first :: n :: count :: records)) s = .next (State.transmit
      (if s.tfu.applyPending = true then s.answered 20 tag .pending []
      else if 2047 < first.toNat ∨ n.toNat < 1 ∨ 256 < n.toNat ∨ 2048 < first.toNat + n.toNat ∨
          2048 < count.toNat then s.answered 20 tag .invalid []
      else match pairsOf records with
        | none => s.answered 20 tag .invalid []
        | some ps =>
          State.answered { s with tfu := { s.tfu with
            shadowPairs := ⟨writeFrom s.tfu.shadowPairs.slots first.toNat ps, count.toNat⟩ } }
            20 tag .ok [])) := by
  refine (request_of_ready h 20 tag).trans (congrArg (Host.Outcome.next ∘ State.transmit) ?_)
  refine Eq.trans (if_neg (Classical.not_not.mpr hlen)) ?_
  refine ite_congr rfl (fun _ => State.complete_started h _ _ _ _ _) fun _ => ?_
  refine ite_congr rfl (fun _ => State.complete_started h _ _ _ _ _) fun _ => ?_
  cases pairsOf records with
  | none => exact State.complete_started h _ _ _ _ _
  | some ps => exact State.complete_eq_answered h rfl rfl

/-! ### The apply (R104, R105, R107) -/

theorem exec_applyParameters_of_ready {s : State} (h : s.Ready []) (tag : Word) :
    exec (.applyParameters tag []) s = .next (State.transmit
      (if s.tfu.applyPending = true then s.answered 21 tag .pending []
      else if s.lsv.loop = .stopped then State.answered { s with tfu := s.tfu.apply } 21 tag .ok []
      else State.answered { s with tfu := { s.tfu with applyPending := true } } 21 tag .accepted [])) := by
  refine (request_of_ready h 21 tag).trans (congrArg (Host.Outcome.next ∘ State.transmit) ?_)
  refine ite_congr rfl (fun _ => State.complete_started h _ _ _ _ _) fun _ => ?_
  refine (ite_congr (propext (State.running_iff s)) (fun _ => ?_) fun _ => ?_).trans (ite_not _ _ _)
  · exact State.complete_eq_answered h rfl rfl
  · exact State.complete_eq_answered h rfl rfl

theorem exec_cancelApply_of_ready {s : State} (h : s.Ready []) (tag : Word) :
    exec (.cancelApply tag []) s = .next (State.transmit
      (if s.tfu.applyPending = true then
        State.answered { s with tfu := { s.tfu with applyPending := false, applyDue := false } } 22 tag .ok []
      else s.answered 22 tag .wrongState [])) := by
  refine (request_of_ready h 22 tag).trans (congrArg (Host.Outcome.next ∘ State.transmit) ?_)
  exact ite_congr rfl (fun _ => State.complete_eq_answered h rfl rfl) fun _ => State.complete_started h _ _ _ _ _

/-- An active record after an apply. -/
theorem Tfu.getElem?_apply {t : Tfu} {i : Nat} {r : ActiveRecord} {p : ActuatorParams}
    (hr : t.active.toList[i]? = some r) (hp : t.shadow.toList[i]? = some p) :
    t.apply.active.toList[i]? = some (applyRecord p r) := by
  rw [Tfu.apply, mapTable_toList, List.getElem?_mapIdx, hr, Option.map_some, entryAt, hp, Option.getD_some]

/-! ### Tables with entries replaced -/

theorem getElem?_writeFrom {n : Nat} {α : Type} (slots : Vector α n) (first : Nat) (carried : List α) {i : Nat}
    (hi : i < n) :
    (writeFrom slots first carried).toList[i]? =
      if first ≤ i ∧ i < first + carried.length then carried[i - first]? else slots.toList[i]? := by
  have hslot : slots.toList[i]? = some slots[i] := by simp [hi]
  rw [writeFrom, mapTable_toList, List.getElem?_mapIdx, hslot, Option.map_some]
  by_cases hfirst : first ≤ i
  · rw [if_pos hfirst]
    by_cases hlast : i < first + carried.length
    · have hin : i - first < carried.length := by omega
      rw [if_pos ⟨hfirst, hlast⟩, List.getElem?_eq_getElem hin, Option.getD_some]
    · rw [if_neg fun hboth => hlast hboth.2, List.getElem?_eq_none (by omega), Option.getD_none]
  · rw [if_neg hfirst, if_neg fun hboth => hfirst hboth.1]

/-- Settles O31: the two requests that carry records, read record by record, the two without fields, and the
apply. -/
theorem parametersAreStaged : Obligations.ParametersAreStaged :=
  ⟨fun _ tag _ _ _ hlen h => exec_writeActuators_of_ready hlen h tag,
    fun _ tag _ _ _ _ hlen h => exec_writePairs_of_ready hlen h tag, fun _ tag h => exec_applyParameters_of_ready h tag,
    fun _ tag h => exec_cancelApply_of_ready h tag,
    fun _ => ⟨fun _ _ _ _ hr hp => Tfu.getElem?_apply hr hp, rfl, rfl, rfl, rfl, rfl, rfl⟩, paramsOf_spec, pairsOf_spec,
    fun _ _ slots first carried _ hi => getElem?_writeFrom slots first carried hi⟩

end Sys2Proof.Machine
end

section
/-! PROOF. PRESET_COMMANDS (R117), and SET_LOOP to a running state or to the state in force (R121, R122). -/

namespace Sys2Proof.Machine

/-! ### The values that a preset clamps (R117) -/

/-- A stroke value lies outside an actuator's limits. -/
def clampChanges (r : ActiveRecord) (v : Word) : Bool :=
  decide (256 * v.toInt < r.params.low ∨ r.params.high < 256 * v.toInt)

theorem ActuatorParams.clamp_ne_iff (p : ActuatorParams) (x : Int) : p.clamp x ≠ x ↔ x < p.low ∨ p.high < x := by
  unfold ActuatorParams.clamp clampInt
  split
  · omega
  · split <;> omega

theorem clamp_bne_eq (r : ActiveRecord) (v : Word) :
    (r.params.clamp (256 * v.toInt) != 256 * v.toInt) = clampChanges r v := by
  rw [clampChanges, Bool.eq_iff_iff, bne_iff_ne, decide_eq_true_iff, ActuatorParams.clamp_ne_iff]

/-- The value of a preset for actuator `i` lies outside its limits. -/
def presetChanges (active : List ActiveRecord) (first : Nat) (values : List Word) (i : Nat) : Bool :=
  (values[i - first]?).any fun v => decide (first ≤ i) && (active[i]?).any fun r => clampChanges r v

theorem presetClamps_cons (r : ActiveRecord) (active : List ActiveRecord) (v : Word) (values : List Word) :
    presetClamps (r :: active) (v :: values) =
      (if clampChanges r v then 1 else 0) + presetClamps active values := by
  rw [presetClamps, List.zipWith_cons_cons, List.count_cons, clamp_bne_eq, Nat.add_comm]
  cases clampChanges r v <;> rfl

/-- The clamped values counted by the actuators they are for. -/
theorem presetClamps_drop (active : List ActiveRecord) (first : Nat) (values : List Word) :
    presetClamps (active.drop first) values = (List.range active.length).countP (presetChanges active first values) := by
  induction active generalizing first values with
  | nil => rw [List.drop_nil]; rfl
  | cons r active ih =>
    rw [List.length_cons, List.range_succ_eq_map, List.countP_cons, List.countP_map]
    cases first with
    | succ k =>
      have hshift : presetChanges (r :: active) (k + 1) values ∘ Nat.succ = presetChanges active k values := by
        funext i
        simp [presetChanges]
      have hhead : presetChanges (r :: active) (k + 1) values 0 = false := by
        unfold presetChanges
        cases values[0 - (k + 1)]? <;> rfl
      rw [hshift, hhead, List.drop_succ_cons, ih]
      rfl
    | zero =>
      cases values with
      | nil =>
        have hnone : presetChanges (r :: active) 0 [] ∘ Nat.succ = fun _ => false := rfl
        have hhead : presetChanges (r :: active) 0 [] 0 = false := rfl
        rw [hnone, hhead, List.countP_false]
        rfl
      | cons v values =>
        have hshift : presetChanges (r :: active) 0 (v :: values) ∘ Nat.succ = presetChanges active 0 values := by
          funext i
          simp [presetChanges]
        have hhead : presetChanges (r :: active) 0 (v :: values) 0 = clampChanges r v := rfl
        have hrest := ih 0 values
        rw [List.drop_zero] at hrest
        rw [hshift, hhead, List.drop_zero, presetClamps_cons, hrest, Nat.add_comm]

/-! ### The preset made -/

/-- The accumulators named take their values, clamped. -/
def State.presetMade (s : State) (first : Nat) (values : List Word) : State :=
  s.updTfu fun t => { t with active := mapTable (presetRecord first values) t.active }

theorem State.makePreset_eq (s : State) (first : Nat) (values : List Word) :
    s.makePreset first values = (s.presetMade first values).complete .ok
      [BitVec.ofNat 16 (presetClamps (s.tfu.active.toList.drop first) values)] := rfl

theorem presetRecord_eq (first : Nat) (values : List Word) (i : Nat) (r : ActiveRecord) :
    presetRecord first values i r = if first ≤ i then
      match values[i - first]? with
      | some v => { r with acc :=
          if 256 * v.toInt < r.params.low then r.params.low
          else if r.params.high < 256 * v.toInt then r.params.high else 256 * v.toInt }
      | none => r
    else r := by
  unfold presetRecord
  cases values[i - first]? <;> rfl

/-- What a preset makes of the accumulators, and how many values it clamps. -/
theorem State.presetMade_spec (s : State) (first : Nat) (values : List Word) :
    let t := s.presetMade first values
    t = { s with tfu := { s.tfu with active := t.tfu.active } } ∧
      presetClamps (s.tfu.active.toList.drop first) values =
        ((List.range 1024).filter fun i => (values[i - first]?).any fun v =>
          decide (first ≤ i) && (s.tfu.active.toList[i]?).any fun r =>
            decide (256 * v.toInt < r.params.low ∨ r.params.high < 256 * v.toInt)).length ∧
      ∀ i r, s.tfu.active.toList[i]? = some r →
        t.tfu.active.toList[i]? = some (if first ≤ i then
          match values[i - first]? with
          | some v => { r with acc :=
              if 256 * v.toInt < r.params.low then r.params.low
              else if r.params.high < 256 * v.toInt then r.params.high else 256 * v.toInt }
          | none => r
        else r) := by
  refine ⟨rfl, ?_, fun i r hr => ?_⟩
  · rw [presetClamps_drop, Vector.length_toList, List.countP_eq_length_filter]
    rfl
  · rw [← presetRecord_eq, State.presetMade, State.updTfu_tfu, mapTable_toList, List.getElem?_mapIdx, hr]
    rfl

/-! ### PRESET_COMMANDS -/

section
variable {s : State} {first n : Word} {values : List Word} (h : s.Ready (first :: n :: values))
  (hlen : values.length = n.toNat) (tag : Word)
include h hlen

theorem exec_presetCommands_of_ready :
    exec (.presetCommands tag (first :: n :: values)) s = .next (State.transmit
      (if s.lsv.loop = .closed then s.answered 23 tag .wrongState []
      else if 1023 < first.toNat ∨ n.toNat < 1 ∨ 1024 < n.toNat ∨ 1024 < first.toNat + n.toNat then
        s.answered 23 tag .invalid []
      else if s.tfu.pass.isSome = true then s.started 23 tag (first :: n :: values) (.pass first.toNat values)
      else (s.presetMade first.toNat values).answered 23 tag .ok
        [BitVec.ofNat 16 (presetClamps (s.tfu.active.toList.drop first.toNat) values)])) := by
  refine (request_of_ready h 23 tag).trans (congrArg (Host.Outcome.next ∘ State.transmit) ?_)
  refine Eq.trans (if_neg (Classical.not_not.mpr hlen)) ?_
  refine ite_congr rfl (fun _ => State.complete_started h _ _ _ _ _) fun _ => ?_
  refine ite_congr rfl (fun _ => State.complete_started h _ _ _ _ _) fun _ => ?_
  exact ite_congr rfl (fun _ => rfl) fun _ => State.complete_eq_answered h rfl rfl

end

/-- Settles O32: the request by its checks, and the preset record by record. -/
theorem presetSetsTheAccumulators : Obligations.PresetSetsTheAccumulators := by
  refine ⟨fun s tag first n values hlen h => ?_, fun s r first values _ =>
    ⟨s.presetMade first values, _, s.makePreset_eq first values, s.presetMade_spec first values⟩⟩
  have hexec := exec_presetCommands_of_ready h hlen tag
  by_cases hclosed : s.lsv.loop = .closed
  · rw [if_pos hclosed]
    rwa [if_pos hclosed] at hexec
  by_cases hrange : 1023 < first.toNat ∨ n.toNat < 1 ∨ 1024 < n.toNat ∨ 1024 < first.toNat + n.toNat
  · rw [if_neg hclosed, if_pos hrange]
    rwa [if_neg hclosed, if_pos hrange] at hexec
  by_cases hpass : s.tfu.pass.isSome = true
  · rw [if_neg hclosed, if_neg hrange, if_pos (Option.isSome_iff_ne_none.mp hpass)]
    rwa [if_neg hclosed, if_neg hrange, if_pos hpass] at hexec
  · rw [if_neg hclosed, if_neg hrange, if_neg fun hne => hpass (Option.isSome_iff_ne_none.mpr hne)]
    rw [if_neg hclosed, if_neg hrange, if_neg hpass] at hexec
    exact ⟨s.presetMade first.toNat values, _, hexec, s.presetMade_spec first.toNat values⟩

/-! ### SET_LOOP where the loop does not stop (R121, R122) -/

theorem LoopState.ofNumber_of_gt {n : Nat} (h : 3 < n) : LoopState.ofNumber n = none := by
  obtain ⟨m, rfl⟩ : ∃ m, n = m + 4 := ⟨n - 4, by omega⟩
  rfl

theorem LoopState.ofNumber_number (l : LoopState) : LoopState.ofNumber (BitVec.ofNat 16 l.number).toNat = some l := by
  cases l <;> rfl

/-- The supervisor after SET_LOOP to a running state or to the state in force. -/
def Lsv.setLoop (target : LoopState) (v : Lsv) : Lsv :=
  { v with loop := target, tripCause := if target = .closed ∧ v.loop ≠ .closed then none else v.tripCause }

theorem Lsv.setLoop_same (v : Lsv) : v.setLoop v.loop = v := by
  rw [Lsv.setLoop, if_neg fun hboth => hboth.2 hboth.1]

theorem Lsv.setLoop_of_ne {target : LoopState} {v : Lsv} (h : target ≠ v.loop) :
    v.setLoop target = { v with loop := target, tripCause := if target = .closed then none else v.tripCause } := by
  have hclosed : (target = .closed ∧ v.loop ≠ .closed) ↔ target = .closed :=
    and_iff_left_of_imp fun htarget hloop => h (htarget.trans hloop.symm)
  rw [Lsv.setLoop]
  simp only [hclosed]

/-- A SET_LOOP of a known state, but to STOPPED from a running one. -/
theorem State.setLoop_of_runs {s : State} {target : LoopState} (h : target ≠ .stopped ∨ s.lsv.loop = .stopped) :
    State.setLoop [BitVec.ofNat 16 target.number] s = (s.updLsv (·.setLoop target)).complete .ok
      [BitVec.ofNat 16 s.lsv.loop.number, BitVec.ofNat 16 target.number] := by
  unfold State.setLoop
  simp only [LoopState.ofNumber_number]
  by_cases hsame : target = s.lsv.loop
  · subst hsame
    have hkept : (s.updLsv fun v => v.setLoop s.lsv.loop) = s := by rw [State.updLsv, Lsv.setLoop_same]
    rw [if_pos rfl, hkept]
    rfl
  · have htarget : target ≠ .stopped := h.elim id fun hstopped htarget => hsame (htarget.trans hstopped.symm)
    rw [if_neg hsame, if_neg htarget, State.updLsv, Lsv.setLoop_of_ne hsame]
    rfl

theorem State.setLoop_of_bad {w : Word} (h : 3 < w.toNat) (s : State) : State.setLoop [w] s = s.complete .invalid [] := by
  simp only [State.setLoop, LoopState.ofNumber_of_gt h]

/-- Settles O33: a value out of range, and the supervisor's change for one in range. -/
theorem setLoopEntersARunningState : Obligations.SetLoopEntersARunningState := by
  refine fun s tag => ⟨fun w hw h => ?_, fun target htarget h => ?_⟩
  · rw [exec_setLoop_of_ready h, State.setLoop_of_bad hw, State.transmit_refused h]
  · rw [exec_setLoop_of_ready h, State.setLoop_of_runs (s := s.started 11 tag _ .now) htarget]
    exact congrArg Host.Outcome.next (State.transmit_done h rfl rfl)

end Sys2Proof.Machine
end

section
/-! PROOF. READ_COUNTERS and CLEAR_COUNTERS (R131, R176). -/

namespace Sys2Proof.Machine

/-! ### Words of counts and links -/

/-- The words of a list of counts. -/
def countsWords (cs : List Count) : List Word := (cs.map fun c => [c.extractLsb' 16 16, c.extractLsb' 0 16]).flatten

theorem countsWords_eq (cs : List Count) : (cs.map countWords).flatten = countsWords cs := by
  rw [countsWords, ← funext word2_toNat]
  rfl

theorem countsWords_append (cs ds : List Count) : countsWords (cs ++ ds) = countsWords cs ++ countsWords ds := by
  rw [countsWords, List.map_append, List.flatten_append]
  rfl

theorem countWords_eq (c : Count) : countWords c = countsWords [c] := (List.append_nil _).symm.trans (countsWords_eq [c])

theorem State.links_toList (s : State) :
    s.links.toList = [s.link 0, s.link 1, s.link 2, s.link 3, s.link 4, s.link 5, s.link 6, s.link 7] := by
  refine List.ext_getElem (Vector.length_toList) fun i hi hj => ?_
  rw [Vector.length_toList] at hi
  match i, hi with
  | 0, _ | 1, _ | 2, _ | 3, _ | 4, _ | 5, _ | 6, _ | 7, _ => rfl

/-! ### READ_COUNTERS -/

theorem exec_readCounters_of_ready {s : State} (h : s.Ready []) (tag : Word) :
    exec (.readCounters tag []) s = .next (s.answered 2 tag .ok s.counterWords).transmit := by
  refine (request_of_ready h 2 tag).trans (congrArg Host.Outcome.next ?_)
  exact State.transmit_refused h .ok s.counterWords

/-! ### CLEAR_COUNTERS -/

theorem exec_clearCounters_of_ready {s : State} (h : s.Ready []) (tag : Word) :
    exec (.clearCounters tag []) s = .next (State.transmit
      (if s.running = true then s.answered 3 tag .wrongState [] else s.clearAll.answered 3 tag .ok [])) := by
  refine (request_of_ready h 3 tag).trans (congrArg (Host.Outcome.next ∘ State.transmit) ?_)
  exact ite_congr rfl (fun _ => State.complete_started h _ _ _ _ _) fun _ => State.complete_eq_answered h rfl rfl

theorem State.link_clearAll (s : State) (l : Link) : s.clearAll.link l = { s.link l with counts := .zero } := by
  have hlinks : s.clearAll.links = mapTable (fun _ x => { x with counts := .zero }) s.links := rfl
  rw [State.link, hlinks]
  exact mapTable_getElem _ _ _ _

theorem State.getElem?_clearAll {s : State} {i : Nat} {r : ActiveRecord} (hr : s.tfu.active.toList[i]? = some r) :
    s.clearAll.tfu.active.toList[i]? = some { r with saturations := 0 } := by
  have hactive : s.clearAll.tfu.active = mapTable (fun _ r => { r with saturations := 0 }) s.tfu.active := rfl
  rw [hactive, mapTable_toList, List.getElem?_mapIdx, hr]
  rfl

/-- Settles O36: the counts' words in their order, and CLEAR_COUNTERS by the loop state. -/
theorem countersAreReadAndCleared : Obligations.CountersAreReadAndCleared := by
  refine ⟨fun s tag h => ?_, fun s tag h hloop => ?_, fun s tag h hloop => ?_⟩
  · intro link c cycle r ring port all
    refine ⟨rfl, ?_⟩
    have hlinks : (s.links.toList.map fun x => x.counts.words).flatten =
        countsWords (link 0 ++ link 1 ++ link 2 ++ link 3 ++ link 4 ++ link 5 ++ link 6 ++ link 7) := by
      have hlink (l : Link) : (s.link l).counts.words = countsWords (link l) := countsWords_eq _
      simp only [s.links_toList, List.map_cons, List.map_nil, List.flatten_cons, List.flatten_nil, hlink,
        countsWords_append, List.append_assoc, List.append_nil]
    have hmemory : countWords s.mmc.corrected ++ countWords s.mmc.uncorrectable =
        countsWords [s.mmc.corrected, s.mmc.uncorrectable] := by
      rw [countWords_eq, countWords_eq, ← countsWords_append]
      rfl
    have hcycle : s.lsv.counts.words = countsWords cycle := countsWords_eq _
    have hring : s.drp.counts.words = countsWords ring := countsWords_eq _
    have hport : (port.map countWords).flatten = countsWords port := countsWords_eq _
    have hwords : s.counterWords = countsWords all := by
      change (s.links.toList.map fun x => x.counts.words).flatten ++ countWords s.mmc.corrected ++
        countWords s.mmc.uncorrectable ++ s.lsv.counts.words ++ s.drp.counts.words ++ (port.map countWords).flatten = _
      rw [List.append_assoc _ (countWords s.mmc.corrected), hlinks, hmemory, hcycle, hring, hport]
      simp only [all, countsWords_append]
    rw [exec_readCounters_of_ready h, hwords]
    rfl
  · rw [exec_clearCounters_of_ready h, if_pos ((State.running_iff s).mpr hloop)]
  · refine ⟨s.clearAll, ?_, s.link_clearAll, fun i r hr => State.getElem?_clearAll hr, rfl⟩
    rw [exec_clearCounters_of_ready h, if_neg fun hrun => (State.running_iff s).mp hrun hloop]

end Sys2Proof.Machine
end

section
/-! PROOF. SET_SENSOR (R13, R14) and SET_TIMING (R56, R58, R61). -/

namespace Sys2Proof.Machine

/-! ### The fields of SET_SENSOR -/

theorem linkOf_of_gt {w : Word} (h : 7 < w.toNat) : linkOf w = none := dif_neg (by omega)

theorem linkOf_link (l : Link) : linkOf (BitVec.ofNat 16 l.val) = some l := by
  revert l
  decide

theorem Role.ofNumber_of_gt {n : Nat} (h : 1 < n) : Role.ofNumber n = none := by
  obtain ⟨m, rfl⟩ : ∃ m, n = m + 2 := ⟨n - 2, by omega⟩
  rfl

theorem Role.ofNumber_of_le {w : Word} (h : w.toNat ≤ 1) :
    Role.ofNumber w.toNat = some (if w = 0 then .essential else .optional) := by
  obtain rfl | rfl := toNat_eq_zero_or_one h <;> rfl

/-- Checks 1 and 2 of R13 on a sensor's fields. -/
theorem sensorFields_eq {sensor en base blocks slopes role : Word} {l : Link} (hl : linkOf sensor = some l) :
    sensorFields sensor en base blocks slopes role =
      if 1 < en.toNat ∨ 63 < base.toNat ∨ blocks.toNat < 1 ∨ 16 < blocks.toNat ∨ 1 < role.toNat then none
      else some (l, ⟨decide (en = 1), base.toNat, blocks.toNat, slopes.toNat,
        if role = 0 then .essential else .optional⟩) := by
  unfold sensorFields
  rw [hl]
  by_cases hen : 1 < en.toNat
  · rw [flagOfNumber_of_gt hen, if_pos (.inl hen)]
  by_cases hrole : 1 < role.toNat
  · rw [Role.ofNumber_of_gt hrole, flagOfNumber_of_le (by omega), if_pos (by omega)]
  rw [Role.ofNumber_of_le (by omega), flagOfNumber_of_le (by omega)]
  refine (ite_congr (propext ?_) (fun _ => rfl) fun _ => rfl).trans (ite_not _ _ _)
  omega

theorem sensorFields_of_gt {sensor : Word} (h : 7 < sensor.toNat) (en base blocks slopes role : Word) :
    sensorFields sensor en base blocks slopes role = none := by
  unfold sensorFields
  rw [linkOf_of_gt h]

/-! ### Windows (R13) -/

theorem State.windowTaken_eq (s : State) (l : Link) (e : MapEntry) :
    s.windowTaken l e = (List.finRange 8).any fun k => decide (k ≠ l) && (s.link k).entry.enabled &&
      decide (e.base < (s.link k).entry.base + (s.link k).entry.blocks) &&
      decide ((s.link k).entry.base < e.base + e.blocks) := by
  unfold State.windowTaken
  refine congrArg (List.any (List.finRange 8)) (funext fun k => ?_)
  rw [MapEntry.meets, Bool.eq_iff_iff]
  simp only [Bool.and_eq_true, bne_iff_ne, decide_eq_true_eq]
  exact (and_congr Iff.rfl And.comm).trans and_assoc.symm

theorem MapEntry.fits_eq_false_iff (e : MapEntry) :
    e.fits = false ↔ 64 < e.base + e.blocks ∨ e.slopes ≤ 256 * (e.blocks - 1) ∨ 256 * e.blocks < e.slopes := by
  simp only [MapEntry.fits, Bool.and_eq_false_iff, decide_eq_false_iff_not]
  omega

/-! ### The entry replaced (R14, R20) -/

/-- A receiver disabled: what it stored is lost, and its current record is closed with SYNC_LOST. -/
theorem LinkState.disable_eq (x : LinkState) :
    x.disable = LinkState.closeRecord { x with
      receiver := .disabled
      storing := none
      buffer0 := if x.storing = some .zero then ⟨.free, []⟩ else x.buffer0
      buffer1 := if x.storing = some .one then ⟨.free, []⟩ else x.buffer1
      current := x.current.map fun r => ⟨{ r.record with syncLost := true }, r.owed⟩ } := by
  unfold LinkState.disable LinkState.closeLost
  cases hstoring : x.storing with
  | none => rfl
  | some k => cases k <;> rfl

theorem LinkState.setEntry_eq (x : LinkState) (e : MapEntry) :
    x.setEntry e =
      if x.entry.enabled = false then
        { x with entry := e, receiver := if e.enabled = true then .hunt else x.receiver }
      else if e.enabled = true then { x with entry := e }
      else LinkState.disable { x with entry := e } := by
  unfold LinkState.setEntry
  cases x.entry.enabled <;> cases e.enabled <;> rfl

/-! ### SET_SENSOR -/

/-- SET_SENSOR once its fields are read. -/
def State.sensorSet (l : Link) (e : MapEntry) (s : State) : State :=
  if e.fits = false then s.complete .invalid []
  else if e.enabled ∧ s.windowTaken l e then s.complete .overlap []
  else (s.updLink l (·.setEntry e)).complete .ok []

theorem State.setSensor_of_fields {sensor en base blocks slopes role : Word} {l : Link} {e : MapEntry}
    (h : sensorFields sensor en base blocks slopes role = some (l, e)) (s : State) :
    State.setSensor [sensor, en, base, blocks, slopes, role] s =
      if s.running ∨ s.tmr.enabled then s.complete .wrongState [] else s.sensorSet l e := by
  simp only [State.setSensor, h]
  rfl

theorem State.setSensor_of_bad {sensor en base blocks slopes role : Word}
    (h : sensorFields sensor en base blocks slopes role = none) (s : State) :
    State.setSensor [sensor, en, base, blocks, slopes, role] s =
      if s.running ∨ s.tmr.enabled then s.complete .wrongState [] else s.complete .invalid [] := by
  simp only [State.setSensor, h]

theorem State.updLink_started (s : State) (code : Nat) (tag : Word) (payload : List Word) (job : Job) (l : Link)
    (f : LinkState → LinkState) :
    s.updLink l f = { (s.started code tag payload job).updLink l f with clp := s.clp } := rfl

/-- SET_SENSOR's entry carried out once its other fields are in range. -/
theorem State.transmit_sensorSet {s : State} {payload : List Word} (h : s.Ready payload) {tag : Word} (l : Link)
    (e : MapEntry) {enables : Prop} [Decidable enables] (henabled : e.enabled = true ↔ enables) :
    ((s.started 6 tag payload .now).sensorSet l e).transmit = State.transmit
      (if 64 < e.base + e.blocks then s.answered 6 tag .invalid []
      else if e.slopes ≤ 256 * (e.blocks - 1) ∨ 256 * e.blocks < e.slopes then s.answered 6 tag .invalid []
      else if enables ∧ ((List.finRange 8).any fun k => decide (k ≠ l) && (s.link k).entry.enabled &&
          decide (e.base < (s.link k).entry.base + (s.link k).entry.blocks) &&
          decide ((s.link k).entry.base < e.base + e.blocks)) = true then s.answered 6 tag .overlap []
      else (s.updLink l (·.setEntry e)).answered 6 tag .ok []) := by
  have hfits := e.fits_eq_false_iff
  refine congrArg State.transmit ?_
  unfold State.sensorSet
  by_cases hend : 64 < e.base + e.blocks
  · rw [if_pos (hfits.mpr (.inl hend)), if_pos hend]
    exact State.complete_started h _ _ _ _ _
  rw [if_neg hend]
  refine ite_congr (propext (hfits.trans (or_iff_right hend))) (fun _ => State.complete_started h _ _ _ _ _) fun _ => ?_
  rw [← s.windowTaken_eq l e]
  exact ite_congr (propext (and_congr henabled Iff.rfl)) (fun _ => State.complete_started h _ _ _ _ _) fun _ =>
    State.complete_eq_answered h rfl (State.updLink_started _ _ _ _ _ _ _)

/-- Settles O37: the fields' checks in order, and the entry replaced at its link. -/
theorem setSensorReplacesTheMapEntry : Obligations.SetSensorReplacesTheMapEntry := by
  refine ⟨fun s tag sensor en base blocks slopes role hsensor h => ?_, fun s tag en base blocks slopes role l h => ?_⟩
  · refine (request_of_ready h 6 tag).trans (congrArg (Host.Outcome.next ∘ State.transmit) ?_)
    refine (State.setSensor_of_bad (sensorFields_of_gt hsensor ..) _).trans ?_
    exact (ite_congr rfl (fun _ => State.complete_started h _ _ _ _ _) fun _ =>
      State.complete_started h _ _ _ _ _).trans (apply_ite (fun r => s.answered 6 tag r []) _ _ _).symm
  · intro e
    refine (request_of_ready h 6 tag).trans (congrArg Host.Outcome.next ?_)
    have hfields := sensorFields_eq (en := en) (base := base) (blocks := blocks) (slopes := slopes) (role := role)
      (linkOf_link l)
    have henabled : e.enabled = true ↔ en = 1 := decide_eq_true_iff
    have hset : s.updLink l (·.setEntry e) = s.updLink l fun x =>
        if x.entry.enabled = false then
          { x with entry := e, receiver := if en = 1 then .hunt else x.receiver }
        else if en = 1 then { x with entry := e }
        else
          LinkState.closeRecord { x with
            entry := e
            receiver := .disabled
            storing := none
            buffer0 := if x.storing = some .zero then ⟨.free, []⟩ else x.buffer0
            buffer1 := if x.storing = some .one then ⟨.free, []⟩ else x.buffer1
            current := x.current.map fun r => ⟨{ r.record with syncLost := true }, r.owed⟩ } :=
      State.updLink_congr (by simp only [LinkState.setEntry_eq, LinkState.disable_eq, henabled])
    by_cases hbad : 1 < en.toNat ∨ 63 < base.toNat ∨ blocks.toNat < 1 ∨ 16 < blocks.toNat ∨ 1 < role.toNat
    · rw [if_pos hbad] at hfields
      refine (congrArg State.transmit (State.setSensor_of_bad hfields _)).trans (congrArg State.transmit ?_)
      refine ite_congr rfl (fun _ => State.complete_started h _ _ _ _ _) fun _ => ?_
      rw [if_pos hbad]
      exact State.complete_started h _ _ _ _ _
    · rw [if_neg hbad] at hfields
      refine (congrArg State.transmit (State.setSensor_of_fields hfields _)).trans ?_
      rw [← hset, if_neg hbad, apply_ite State.transmit, apply_ite State.transmit]
      refine ite_congr rfl (fun _ => State.transmit_refused h _ _) fun _ => ?_
      exact State.transmit_sensorSet h l e henabled

/-! ### The fields of SET_TIMING -/

theorem Trigger.ofNumber_of_gt {n : Nat} (h : 2 < n) : Trigger.ofNumber n = none := by
  obtain ⟨m, rfl⟩ : ∃ m, n = m + 3 := ⟨n - 3, by omega⟩
  rfl

theorem edgeOfNumber_of_gt {n : Nat} (h : 1 < n) : edgeOfNumber n = none := by
  obtain ⟨m, rfl⟩ : ∃ m, n = m + 2 := ⟨n - 2, by omega⟩
  rfl

theorem ComputeOrder.ofNumber_of_gt {n : Nat} (h : 1 < n) : ComputeOrder.ofNumber n = none := by
  obtain ⟨m, rfl⟩ : ∃ m, n = m + 2 := ⟨n - 2, by omega⟩
  rfl

theorem timingFields_of_bad {trigger period edge deadline order : Word}
    (h : 2 < trigger.toNat ∨ period.toNat < 100 ∨ 1 < edge.toNat ∨ deadline.toNat < 10 ∨ 1 < order.toNat) :
    timingFields trigger period edge deadline order = none := by
  unfold timingFields
  split
  · rename_i ht he ho
    have htrigger : ¬2 < trigger.toNat := fun hgt => nomatch (Trigger.ofNumber_of_gt hgt).symm.trans ht
    have hedge : ¬1 < edge.toNat := fun hgt => nomatch (edgeOfNumber_of_gt hgt).symm.trans he
    have horder : ¬1 < order.toNat := fun hgt => nomatch (ComputeOrder.ofNumber_of_gt hgt).symm.trans ho
    exact if_neg (by omega)
  · rfl

theorem timingFields_of_numbers (g : Trigger) (d : Edge) (o : ComputeOrder) {period deadline : Word}
    (hperiod : 100 ≤ period.toNat) (hdeadline : 10 ≤ deadline.toNat) :
    timingFields (BitVec.ofNat 16 g.number) period (BitVec.ofNat 16 (edgeNumber d)) deadline
      (BitVec.ofNat 16 o.number) = some ⟨g, period.toNat, d, deadline.toNat, o⟩ := by
  have hg : Trigger.ofNumber (BitVec.ofNat 16 g.number).toNat = some g := by cases g <;> rfl
  have hd : edgeOfNumber (BitVec.ofNat 16 (edgeNumber d)).toNat = some d := by cases d <;> rfl
  have ho : ComputeOrder.ofNumber (BitVec.ofNat 16 o.number).toNat = some o := by cases o <;> rfl
  unfold timingFields
  rw [hg, hd, ho]
  exact if_pos ⟨hperiod, hdeadline⟩

/-! ### The settings replaced (R58, R61) -/

theorem Ctu.setTiming_eq (c : Ctu) (x : TimingSettings) :
    c.setTiming x = { c with
      trigger := x.trigger, pacePending := x.period, edge := x.edge, deadline := x.deadline, order := x.order
      paceCurrent := if x.trigger = .paced ∧ c.trigger ≠ .paced then x.period else c.paceCurrent
      paceAt := if x.trigger = .paced then
          (if c.trigger = .paced then c.paceAt else some (c.timebase + microseconds x.period))
        else none } := by
  unfold Ctu.setTiming Ctu.switchPace
  by_cases hnew : x.trigger = .paced
  · by_cases hold : c.trigger = .paced
    · simp [hnew, hold]
    · simp [hnew, hold, Ctu.paceReload]
  · simp [hnew]

/-! ### SET_TIMING -/

theorem State.setTiming_of_bad {trigger period edge deadline order : Word}
    (h : timingFields trigger period edge deadline order = none) (s : State) :
    State.setTiming [trigger, period, edge, deadline, order] s = s.complete .invalid [] := by
  simp only [State.setTiming, h]

theorem State.setTiming_of_fields {trigger period edge deadline order : Word} {x : TimingSettings}
    (h : timingFields trigger period edge deadline order = some x) (s : State) :
    State.setTiming [trigger, period, edge, deadline, order] s =
      if x.order ≠ s.ctu.order ∧ s.running then s.complete .wrongState [] else (s.applyTiming x).complete .ok [] := by
  simp only [State.setTiming, h]

section
variable {s : State} {x : TimingSettings}

/-- A change of the settings that is no switch to IMMEDIATE in BATCH order. -/
theorem State.applyTiming_of_no_switch
    (h : ¬(x.trigger = .immediate ∧ s.ctu.trigger ≠ .immediate ∧ x.order = .batch)) :
    s.applyTiming x = s.updCtu (·.setTiming x) := if_neg h

theorem State.applyTiming_of_switch (h : x.trigger = .immediate ∧ s.ctu.trigger ≠ .immediate ∧ x.order = .batch) :
    s.applyTiming x = (s.updCtu (·.setTiming x)).attachOnIdle.offer := if_pos h

/-- An engine that is not IDLE and offers nothing the filter could take. -/
theorem State.attachOnIdle_offer_of_busy (hstate : s.rce.state ≠ .idle)
    (hoffers : s.rce.state = .delivering → s.tfu.pass ≠ none) : s.attachOnIdle.offer = s := by
  have hattach : s.attachOnIdle = s := by
    rw [State.attachOnIdle_eq, State.idleChoice, if_neg fun hboth => hstate hboth.1]
    rfl
  rw [hattach]
  by_cases hdelivers : s.rce.state = .delivering
  · exact State.offer_of_not_offered (.inr (.inr (hoffers hdelivers)))
  · exact State.offer_of_ne hdelivers

/-- An IDLE engine under IMMEDIATE in BATCH order. -/
theorem State.attachOnIdle_offer_of_idle (hstate : s.rce.state = .idle) (horder : s.ctu.order = .batch)
    (htrigger : s.ctu.trigger = .immediate) :
    s.attachOnIdle.offer =
      if s.running = true then
        match s.oldestWaiting with
        | some x => (s.attach x).offer
        | none => s
      else s := by
  have hoffer : s.offer = s := State.offer_of_ne (by simp [hstate])
  rw [State.attachOnIdle_eq]
  unfold State.idleChoice
  simp only [hstate, horder, htrigger, true_and, if_true]
  split
  · cases s.oldestWaiting with
    | some x => rfl
    | none => exact hoffer
  · exact hoffer

end

/-- Settles O38: the fields' ranges, the settings replaced, and the switch to IMMEDIATE by the engine's state. -/
theorem setTimingReplacesTheSettings : Obligations.SetTimingReplacesTheSettings := by
  refine ⟨fun s tag trigger period edge deadline order h hbad => ?_, ?_⟩
  · refine (request_of_ready h 9 tag).trans (congrArg Host.Outcome.next ?_)
    exact (congrArg State.transmit (State.setTiming_of_bad (timingFields_of_bad hbad) _)).trans
      (State.transmit_refused h _ _)
  intro s tag period deadline g d o payload ctu h hperiod hdeadline
  have hctu : s.ctu.setTiming ⟨g, period.toNat, d, deadline.toNat, o⟩ = ctu := s.ctu.setTiming_eq _
  have hexec : exec (.setTiming tag payload) s = .next (State.transmit
      (if o ≠ s.ctu.order ∧ s.running then (s.started 9 tag payload .now).complete .wrongState []
      else ((s.started 9 tag payload .now).applyTiming ⟨g, period.toNat, d, deadline.toNat, o⟩).complete .ok [])) :=
    (request_of_ready h 9 tag).trans (congrArg (Host.Outcome.next ∘ State.transmit)
      (State.setTiming_of_fields (timingFields_of_numbers g d o hperiod hdeadline) _))
  have hset : (s.started 9 tag payload .now).updCtu (·.setTiming ⟨g, period.toNat, d, deadline.toNat, o⟩) =
      { s.started 9 tag payload .now with ctu := ctu } := by
    rw [← hctu]
    rfl
  refine ⟨fun horder hrun => ?_, fun horder => ?_⟩
  · rw [hexec, if_pos ⟨horder, hrun⟩, State.complete_started h]
  have haccepted : ¬(o ≠ s.ctu.order ∧ s.running = true) := by
    rintro ⟨hne, hrun⟩
    obtain heq | hstopped := horder
    · exact hne heq
    · exact absurd (hstopped.symm.trans hrun) Bool.false_ne_true
  rw [if_neg haccepted] at hexec
  refine ⟨fun hstays => ?_, fun hg htrigger ho => ?_⟩
  · have happlied : (s.started 9 tag payload .now).applyTiming ⟨g, period.toNat, d, deadline.toNat, o⟩ =
        { s.started 9 tag payload .now with ctu := ctu } := by
      by_cases hswitch : g = .immediate ∧ s.ctu.trigger ≠ .immediate ∧ o = .batch
      · obtain ⟨hg, htrigger, ho⟩ := hswitch
        obtain hne | himmediate | hstream | ⟨hstate, hoffers⟩ := hstays
        · exact absurd hg hne
        · exact absurd himmediate htrigger
        · exact nomatch ho.symm.trans hstream
        · refine (State.applyTiming_of_switch (s := s.started 9 tag payload .now)
            (x := ⟨g, period.toNat, d, deadline.toNat, o⟩) ⟨hg, htrigger, ho⟩).trans ?_
          rw [hset, State.attachOnIdle_offer_of_busy (s := { s.started 9 tag payload .now with ctu := ctu }) hstate hoffers]
      · exact (State.applyTiming_of_no_switch (s := s.started 9 tag payload .now)
          (x := ⟨g, period.toNat, d, deadline.toNat, o⟩) hswitch).trans hset
    rw [hexec, happlied]
    exact congrArg Host.Outcome.next (State.transmit_done h rfl rfl)
  · intro u
    have hswitch : (s.started 9 tag payload .now).applyTiming ⟨g, period.toNat, d, deadline.toNat, o⟩ =
        u.attachOnIdle.offer := (State.applyTiming_of_switch (s := s.started 9 tag payload .now)
        (x := ⟨g, period.toNat, d, deadline.toNat, o⟩) ⟨hg, htrigger, ho⟩).trans (by rw [hset])
    rw [hswitch] at hexec
    refine ⟨hexec, fun hidle => ?_⟩
    rw [hexec, State.attachOnIdle_offer_of_idle (s := u) hidle ho hg]
    have hrunning : u.running = s.running := rfl
    have holdest : u.oldestWaiting = s.oldestWaiting := rfl
    rw [hrunning, holdest]
    cases s.running with
    | false => rfl
    | true => cases s.oldestWaiting <;> rfl

end Sys2Proof.Machine
end

section
/-! PROOF. READ_STATUS, READ_LINK_STATUS and READ_ACTUATORS (R25, R118, R175), with the words of their groups. -/

namespace Sys2Proof.Machine

/-! ### Lists of words (R179) -/

theorem flatten_map_word1 (ns : List Nat) : (ns.map word1).flatten = ns.map (BitVec.ofNat 16) := by
  induction ns with
  | nil => rfl
  | cons n ns ih =>
    rw [List.map_cons, List.flatten_cons, ih]
    rfl

theorem toList_eq_map_finRange {n : Nat} {α : Type} (v : Vector α n) :
    v.toList = (List.finRange n).map fun i => v[i] := by
  refine List.ext_getElem (by simp) fun i hi hj => ?_
  simp

theorem sum_map_filter {α : Type} (p : α → Bool) (f : α → Nat) (l : List α) :
    ((l.filter p).map f).sum = (l.map fun a => if p a then f a else 0).sum := by
  induction l with
  | nil => rfl
  | cons a l ih =>
    rw [List.map_cons, List.sum_cons, ← ih]
    cases hp : p a <;> simp [hp]

theorem listWords_map_word1 {α : Type} (f : α → Nat) (l : List α) :
    listWords (l.map fun a => word1 (f a)) = word1 l.length ++ l.map fun a => BitVec.ofNat 16 (f a) := by
  have hmap : (l.map fun a => word1 (f a)).flatten = l.map fun a => BitVec.ofNat 16 (f a) := by
    exact (congrArg List.flatten List.map_map.symm).trans ((flatten_map_word1 (l.map f)).trans List.map_map)
  rw [listWords, List.length_map, hmap]

/-! ### The groups that hold lists (R175) -/

theorem Descriptor.words_eq (d : Descriptor) :
    d.words =
      [d.tag, BitVec.ofNat 16 d.state.number, BitVec.ofNat 16 ((d.cause.map ClosureCause.number).getD 0),
        BitVec.ofNat 16 d.relation.number, BitVec.ofNat 16 ((d.outcome.map CycleOutcome.number).getD 0),
        BitVec.ofNat 16 ((d.skip.map SkipCause.number).getD 0)] ++
      ((List.finRange 8).map fun l => SensorStatus.words d.sensors[l]).flatten ++
      BitVec.ofNat 16 d.ready.length :: d.ready.map (BitVec.ofNat 16) ++
      BitVec.ofNat 16 d.markers :: word2 d.openedAt.toNat ++ word2 d.closedAt.toNat := by
  unfold Descriptor.words listWords
  rw [toList_eq_map_finRange, flatten_map_word1, List.length_map, List.map_map]
  simp [word1, Function.comp_def]

theorem Sections.mask_eq (x : Sections) :
    x.mask = ((if x.slopes = true then 1 else 0 : Word)).toNat + 2 * (if x.residuals = true then 1 else 0 : Word).toNat +
      4 * (if x.commands = true then 1 else 0 : Word).toNat := by
  obtain ⟨a, b, c⟩ := x
  cases a <;> cases b <;> cases c <;> rfl

theorem Geometry.sensorMask_eq (g : Geometry) :
    g.sensorMask = (((List.range 8).filter fun i => g.blocks.getD i 0 != 0).map (2 ^ ·)).sum := by
  rw [sum_map_filter, Geometry.sensorMask]
  refine congrArg List.sum (congrArg (List.map · _) (funext fun i => ?_))
  by_cases h : g.blocks.getD i 0 = 0 <;> simp

/-- The head of a reply that lists as many items as the request asked for (R118, R179). -/
theorem listWords_map_slice {α : Type} (f : α → List Word) (v : Vector α 1024) {first n : Word}
    (hrange : first.toNat + n.toNat ≤ 1024) :
    listWords (((v.toList.drop first.toNat).take n.toNat).map f) =
      n :: (((v.toList.drop first.toNat).take n.toNat).map f).flatten := by
  have hlength : ((v.toList.drop first.toNat).take n.toNat).length = n.toNat := by
    rw [List.length_take, List.length_drop, Vector.length_toList]
    omega
  rw [listWords, List.length_map, hlength, word1, BitVec.ofNat_toNat, BitVec.setWidth_eq]
  rfl

/-! ### READ_STATUS -/

theorem exec_readStatus_of_ready {s : State} (h : s.Ready []) (tag : Word) :
    exec (.readStatus tag []) s = .next (s.answered 1 tag .ok (s.started 1 tag [] .now).statusWords).transmit := by
  refine (request_of_ready h 1 tag).trans (congrArg Host.Outcome.next ?_)
  exact State.transmit_refused h .ok _

/-! ### READ_LINK_STATUS and READ_ACTUATORS -/

theorem exec_readLinkStatus_of_link {s : State} {w : Word} {l : Link} (hl : linkOf w = some l) (h : s.Ready [w])
    (tag : Word) :
    exec (.readLinkStatus tag [w]) s = .next (s.answered 7 tag .ok (s.link l).statusWords).transmit := by
  refine (request_of_ready h 7 tag).trans (congrArg Host.Outcome.next ?_)
  have hread : State.readLinkStatus [w] (s.started 7 tag [w] .now) =
      (s.started 7 tag [w] .now).complete .ok (s.link l).statusWords := by
    simp only [State.readLinkStatus, hl]
    rfl
  exact (congrArg State.transmit hread).trans (State.transmit_refused h _ _)

theorem exec_readLinkStatus_of_bad {s : State} {w : Word} (hl : linkOf w = none) (h : s.Ready [w]) (tag : Word) :
    exec (.readLinkStatus tag [w]) s = .next (s.answered 7 tag .invalid []).transmit := by
  refine (request_of_ready h 7 tag).trans (congrArg Host.Outcome.next ?_)
  have hread (t : State) : State.readLinkStatus [w] t = t.complete .invalid [] := by
    simp only [State.readLinkStatus, hl]
  exact (congrArg State.transmit (hread _)).trans (State.transmit_refused h _ _)

/-- Settles O40. -/
theorem reportsReadTheState : Obligations.ReportsReadTheState := by
  unfold Obligations.ReportsReadTheState
  intro one two bit opt
  have hopt : optWord = opt := funext fun o => by cases o <;> rfl
  refine ⟨fun s tag h => ?_, ?_, fun s tag w h hw => exec_readLinkStatus_of_bad (linkOf_of_gt hw) h tag,
    fun s tag l h => ?_, fun s tag sel first n h => ?_⟩
  · intro clp c ctu desc sau directory mmc rce tfu lsv p drp t k g tmr
    have hclp : (s.started 1 tag [] .now).clpStatus = clp := by
      obtain ⟨-, hempty, -⟩ := h
      change word1 s.clp.requests.length ++ word1 (s.clp.replies ++ [ReplyEntry.pending]).length ++
        listWords (s.clp.notices.map fun n => word1 n.payload.kind.number) ++ word1 s.clp.mask.toNat = _
      rw [hempty, List.length_append, listWords_map_word1]
      exact congrArg (_ ++ [·]) (BitVec.ofNat_toNat _ _)
    have hctu : (s.started 1 tag [] .now).ctuStatus = ctu := rfl
    have hdesc (x : BufferId) : (s.desc x).words = desc x := Descriptor.words_eq _
    have hsau : (s.started 1 tag [] .now).sauStatus = sau := by
      change (s.desc .a).words ++ (s.desc .b).words ++ optWord (s.sau.lastClosed.map BitVec.toNat) ++
        word1 (s.freeBuffer.getD s.sau.lastOpened.other).number = _
      rw [hdesc, hdesc, hopt]
      rfl
    have hmmc : (s.started 1 tag [] .now).mmcStatus = mmc := by
      unfold State.mmcStatus
      rw [hopt]
      simp only [mmc, List.append_assoc, List.cons_append]
      rfl
    have hrce : (s.started 1 tag [] .now).rceStatus = rce := by
      change word1 s.rce.state.number ++ word1 ((s.rce.attached.map BufferId.number).getD 2) ++
        optWord (s.rce.bank.map BankId.number) ++ optWord s.rce.shift = _
      rw [hopt]
      rfl
    have htfu : (s.started 1 tag [] .now).tfuStatus = tfu := rfl
    have hlsv : (s.started 1 tag [] .now).lsvStatus = lsv := rfl
    have hdrp : (s.started 1 tag [] .now).drpStatus = drp := by
      unfold State.drpStatus
      rw [hopt]
      simp only [drp, listWords, List.length_map, List.append_assoc, List.cons_append]
      rfl
    have htmr : (s.started 1 tag [] .now).tmrStatus = tmr := by
      unfold State.tmrStatus
      rw [hopt]
      simp only [tmr, flatten_map_word1, Geometry.sensorMask_eq, Sections.mask_eq, List.append_assoc,
        List.cons_append]
      rfl
    rw [exec_readStatus_of_ready h, State.statusWords, hclp, hctu, hsau, hmmc, hrce, htfu, hlsv, hdrp, htmr]
    rfl
  · refine ⟨rfl, rfl, rfl, rfl, rfl, rfl, rfl, rfl, rfl, rfl, rfl, rfl, rfl, rfl, rfl, rfl, rfl, rfl⟩
  · intro x e c
    rw [exec_readLinkStatus_of_link (linkOf_link l) h]
    refine congrArg (fun ws => Host.Outcome.next (s.answered 7 tag .ok ws).transmit) ?_
    unfold LinkState.statusWords
    generalize (s.link l).current = current
    cases current <;> rfl
  · intro fields
    refine (request_of_ready h 24 tag).trans (congrArg (Host.Outcome.next ∘ State.transmit) ?_)
    refine ite_congr rfl (fun _ => State.complete_eq_answered h rfl rfl) fun hok => ?_
    refine (State.complete_eq_answered h rfl rfl).trans (congrArg (s.answered 24 tag .ok) ?_)
    obtain ⟨hsel, hrange⟩ : sel.toNat ≤ 1 ∧ first.toNat + n.toNat ≤ 1024 := by
      simp only [not_or] at hok
      omega
    clear hok
    obtain rfl | rfl := toNat_eq_zero_or_one hsel
    · exact (List.append_assoc _ _ _).trans <| congrArg (· ++ [one s.tfu.activePairs.count, bit s.tfu.applyPending]) <|
          listWords_map_slice ActiveRecord.words s.tfu.active hrange
    · exact (List.append_assoc _ _ _).trans <| congrArg (· ++ [one s.tfu.shadowPairs.count, bit s.tfu.applyPending]) <|
          listWords_map_slice ActuatorParams.words s.tfu.shadow hrange

end Sys2Proof.Machine
end

section
/-! PROOF. What a returned outcome does to a frame record, and READ_FRAME_RECORDS (R18 to R22). -/

namespace Sys2Proof.Machine

theorem FrameRecord.take_eq (r : FrameRecord) (o : PacketOutcome) (last : Bool) :
    r.take o last = { r with
      stored := if o = .stored then (if r.stored = 65535 then r.stored else r.stored + 1) else r.stored
      duplicate := r.duplicate || o == .duplicate
      stale := r.stale || o == .stale
      noBuffer := r.noBuffer || o == .noBuffer
      notStored := r.notStored || o == .notStored
      endSeen := r.endSeen || last } := by
  cases o <;> cases last <;> simp [FrameRecord.take, satSucc]

theorem LinkState.returnOutcome_of_order {x : LinkState} {k : PacketSlot} {rest : List PacketSlot}
    (h : x.order = k :: rest) (o : PacketOutcome) :
    x.returnOutcome o = ({ x with order := rest }.freePacket k).takeOutcome o (packetEnd (x.packet k).words) := by
  unfold LinkState.returnOutcome
  rw [h]

theorem LinkState.takeOutcome_of_closing {x : LinkState} {r : OwedRecord} {rest : List OwedRecord}
    (h : x.closing = r :: rest) (o : PacketOutcome) (last : Bool) :
    x.takeOutcome o last =
      if 1 < r.owed then { x with closing := ⟨r.record.take o last, r.owed - 1⟩ :: rest }
      else if x.queue.length < 16 then { x with closing := rest, queue := x.queue ++ [r.record.take o last] }
      else { x with closing := rest, overflow := true } := by
  unfold LinkState.takeOutcome
  rw [h]
  by_cases howed : 1 < r.owed
  · exact (if_neg (by dsimp only; omega)).trans (if_pos howed).symm
  · exact (if_pos (by dsimp only; omega)).trans (if_neg howed).symm

theorem exec_readFrameRecords_of_invalid {s : State} {w n clear : Word} (h : s.Ready [w, n, clear])
    (hbad : 7 < w.toNat ∨ n.toNat < 1 ∨ 16 < n.toNat ∨ 1 < clear.toNat) (tag : Word) :
    exec (.readFrameRecords tag [w, n, clear]) s = .next (s.answered 8 tag .invalid []).transmit := by
  have hread (t : State) : State.readFrameRecords [w, n, clear] t = t.complete .invalid [] := by
    unfold State.readFrameRecords
    dsimp only
    split
    · next hlink hclear =>
      refine if_pos ?_
      obtain hw | hn | hn | hc := hbad
      · rw [linkOf_of_gt hw] at hlink
        cases hlink
      · exact .inl hn
      · exact .inr hn
      · rw [flagOfNumber_of_gt hc] at hclear
        cases hclear
    · rfl
  refine (request_of_ready h 8 tag).trans (congrArg Host.Outcome.next ?_)
  exact (congrArg State.transmit (hread _)).trans (State.transmit_refused h _ _)

theorem exec_readFrameRecords_of_good {s : State} {n : Word} {l : Link} {clear : Bool}
    (h : s.Ready [BitVec.ofNat 16 l.val, n, if clear = true then 1 else 0]) (hmin : 1 ≤ n.toNat)
    (hmax : n.toNat ≤ 16) (tag : Word) :
    exec (.readFrameRecords tag [BitVec.ofNat 16 l.val, n, if clear = true then 1 else 0]) s =
      .next (State.transmit (State.answered
        (s.updLink l fun y => { y with
          queue := y.queue.drop n.toNat, overflow := if clear = true then false else y.overflow })
        8 tag .ok
        (flagWord (s.link l).overflow ++ listWords (((s.link l).queue.take n.toNat).map FrameRecord.words)))) := by
  have hclear : flagOfNumber (if clear = true then (1 : Word) else 0).toNat = some clear := by
    cases clear <;> rfl
  have hread (t : State) : State.readFrameRecords [BitVec.ofNat 16 l.val, n, if clear = true then 1 else 0] t =
      (t.updLink l fun y => { y with
        queue := y.queue.drop n.toNat, overflow := if clear = true then false else y.overflow }).complete .ok
        (flagWord (t.link l).overflow ++ listWords (((t.link l).queue.take n.toNat).map FrameRecord.words)) := by
    simp only [State.readFrameRecords, linkOf_link, hclear]
    exact if_neg (by omega)
  refine (request_of_ready h 8 tag).trans (congrArg (Host.Outcome.next ∘ State.transmit) ?_)
  exact (hread _).trans (State.complete_eq_answered h rfl rfl)

/-- Settles O41. -/
theorem frameRecordsAreTakenOldestFirst : Obligations.FrameRecordsAreTakenOldestFirst := by
  unfold Obligations.FrameRecordsAreTakenOldestFirst
  refine ⟨fun s tag w n clear h hbad => exec_readFrameRecords_of_invalid h hbad tag,
    ?_, fun x o => ?_, fun x o last => ?_, fun r => rfl⟩
  · intro s tag n l clear payload h hmin hmax x
    refine (exec_readFrameRecords_of_good h hmin hmax tag).trans ?_
    rw [listWords, List.length_map, List.length_take]
    rfl
  · split
    · next horder =>
      unfold LinkState.returnOutcome
      rw [horder]
    · next k rest horder =>
      rw [LinkState.returnOutcome_of_order horder]
      cases k <;> rfl
  · intro mark
    have hmark (r : FrameRecord) : r.take o last = mark r := FrameRecord.take_eq r o last
    split
    · next r rest current hclosing =>
      rw [LinkState.takeOutcome_of_closing hclosing, hmark]
    · next r hclosing hcurrent =>
      unfold LinkState.takeOutcome
      rw [hclosing, hcurrent]
      dsimp only
      rw [hmark]
    · next hclosing hcurrent =>
      unfold LinkState.takeOutcome
      rw [hclosing, hcurrent]

end Sys2Proof.Machine
end

section
/-! PROOF. What a step runs, the passing of time (R51, R54, R58), and the state after a hard reset. -/

namespace Sys2Proof.Machine

/-! ### The front command and the tick -/

theorem step_of_pending {s : State} (h : s.pending = []) : step s = .next s.timePasses := by
  unfold step
  rw [h]

theorem State.takeExpiry_timebase (s : State) : s.takeExpiry.ctu.timebase = s.ctu.timebase := by
  unfold State.takeExpiry
  split
  · rfl
  · split
    · rw [(KeepsClosures.closeBuffer s _ .deadline).ctu]
      rfl
    · rfl

/-- A deadline that is due has been taken. -/
def State.deadlineTaken (s : State) : State :=
  if s.ctu.deadlineAt = some s.ctu.timebase then s.deadlineExpires else s

theorem State.deadlineTaken_timebase (s : State) : s.deadlineTaken.ctu.timebase = s.ctu.timebase := by
  unfold State.deadlineTaken
  split
  · exact State.takeExpiry_timebase _
  · rfl

/-- The deadline timer first, then the pace timer (R54, R58). -/
theorem State.expireDue_eq (s : State) :
    s.expireDue =
      let v : State :=
        if s.ctu.deadlineAt = some s.ctu.timebase then
          State.takeExpiry { s with ctu := { s.ctu with deadlineAt := none } }
        else s
      if v.ctu.paceAt = some v.ctu.timebase then
        State.tick { v with ctu := { v.ctu with
          paceCurrent := v.ctu.pacePending
          paceAt := some (v.ctu.timebase + microseconds v.ctu.pacePending) } }
      else v := by
  change (if s.deadlineTaken.ctu.paceAt = some s.ctu.timebase then s.deadlineTaken.paceExpires s.ctu.timebase
      else s.deadlineTaken) =
    if s.deadlineTaken.ctu.paceAt = some s.deadlineTaken.ctu.timebase then
      s.deadlineTaken.paceExpires s.deadlineTaken.ctu.timebase
    else s.deadlineTaken
  rw [s.deadlineTaken_timebase]

theorem State.expireDue_of_none_due {s : State} (hdeadline : s.ctu.deadlineAt ≠ some s.ctu.timebase)
    (hpace : s.ctu.paceAt ≠ some s.ctu.timebase) : s.expireDue = s := by
  unfold State.expireDue
  rw [if_neg hdeadline]
  exact if_neg hpace

/-- Settles O1. -/
theorem stepRunsTheFrontCommand : Obligations.StepRunsTheFrontCommand := by
  unfold Obligations.StepRunsTheFrontCommand
  refine ⟨fun c rest s => ⟨rfl, rfl⟩, fun s hpending => ?_, State.expireDue_eq⟩
  refine ⟨fun hreset => ?_, fun hreset => ⟨?_, fun hdeadline hpace hdeadline' hpace' => ?_⟩⟩
  · rw [step_of_pending hpending, State.timePasses, if_pos hreset]
  · rw [step_of_pending hpending, State.timePasses, hreset]
    rfl
  · let u : State := { s with ctu := { s.ctu with timebase := s.ctu.timebase + 1 } }
    have htick : s.tickPasses = u := by
      unfold State.tickPasses
      rw [State.expireDue_of_none_due hdeadline hpace]
      exact State.expireDue_of_none_due (s := u) hdeadline' hpace'
    have hstep : step s = .next u.settle := by
      rw [step_of_pending hpending, State.timePasses, hreset, htick]
      rfl
    refine ⟨hstep, fun hsending hrequests => ?_⟩
    obtain ⟨m, hm⟩ := Option.ne_none_iff_exists'.mp hsending
    rw [hstep, State.settle_of_nil (s := u) hrequests, State.transmit_of_sending (s := u) hm]

/-! ### The state after a hard reset -/

/-- Settles O3: a hard reset meets the invariants from every state, and each reads only what it leaves at its
reset value. -/
theorem resetMeetsTheInvariants : Obligations.ResetMeetsTheInvariants :=
  ⟨linksConsistent_closed.hardReset .reset, oneOpen_closed.hardReset .reset, pagesDisjoint_closed.hardReset .reset,
    withinLimits_closed.hardReset .reset, sliceQueue_closed.hardReset .reset, slotsRun_closed.hardReset .reset,
    queuesBounded_closed.hardReset .reset, cyclesAccounted_closed.hardReset .reset, Memory.wf_reset⟩

theorem State.entry_reset (k : BankId) (g : Nat) : State.reset.entry k g = .absent := by
  have hk : State.reset.bank k = Bank.reset := by cases k <;> rfl
  rw [State.entry, hk, Bank.entryAt_reset]

theorem State.desc_reset (x : BufferId) : State.reset.desc x = .freed 0 0 0 := by cases x <;> rfl

theorem SensorStatus.getElem_freed (tag : Word) (opened closed : Time) (l : Link) :
    (Descriptor.freed tag opened closed).sensors[l] = ⟨0, false, false⟩ := by
  simp [Descriptor.freed, SensorStatus.clear]

theorem eq_of_mem_replicate_toList {α : Type} {n : Nat} {a b : α} (h : b ∈ (Vector.replicate n a).toList) : b = a := by
  rw [Vector.toList_replicate] at h
  exact List.eq_of_mem_replicate h

/-- Settles O2. -/
theorem resetLeavesTheStatedValues : Obligations.ResetLeavesTheStatedValues := by
  unfold Obligations.ResetLeavesTheStatedValues
  intro r
  have hlink (l : Link) : r.link l = LinkState.reset := State.link_reset l
  have hdesc (x : BufferId) : r.desc x = .freed 0 0 0 := State.desc_reset x
  have hentry (k : BankId) (g : Nat) : r.entry k g = .absent := State.entry_reset k g
  refine ⟨fun l => ?_, fun x => ?_, ?_⟩
  · rw [hlink]
    exact ⟨rfl, rfl, rfl, rfl, rfl, rfl, rfl, rfl, rfl⟩
  · rw [hdesc]
    exact ⟨rfl, rfl, rfl, rfl, rfl, rfl, SensorStatus.getElem_freed 0 0 0, rfl, rfl, rfl, rfl⟩
  · refine ⟨rfl, rfl, rfl, rfl, rfl, rfl, rfl, rfl, rfl, rfl, rfl, rfl, rfl, fun _ _ => rfl, ?_⟩
    refine ⟨fun k g => ?_, fun k => by cases k <;> rfl, rfl, rfl, rfl, rfl, rfl, rfl, rfl, rfl, ?_⟩
    · rw [hentry]
      exact ⟨rfl, rfl, rfl⟩
    refine ⟨rfl, rfl, rfl, rfl, rfl, rfl, fun _ => eq_of_mem_replicate_toList, fun _ => eq_of_mem_replicate_toList,
      fun _ => eq_of_mem_replicate_toList, fun _ => eq_of_mem_replicate_toList, rfl,
      fun _ => eq_of_mem_replicate_toList, rfl, ?_⟩
    refine ⟨rfl, rfl, rfl, rfl, rfl, rfl, rfl, rfl, rfl, rfl, rfl, ?_⟩
    refine ⟨rfl, rfl, rfl, rfl, rfl, rfl, rfl, rfl, rfl, rfl, rfl, rfl, rfl, rfl, rfl, rfl, rfl, rfl, rfl, rfl, rfl, ?_⟩
    refine ⟨rfl, rfl, rfl, rfl, rfl, rfl, inMask_reset, rfl, rfl, rfl, rfl, rfl, rfl, rfl, rfl, rfl⟩

end Sys2Proof.Machine
end

section
/-! PROOF. The requests that stay in execution with bursts of the host channel, and how their transfer ends (R70,
R75 to R77). -/

namespace Sys2Proof.Machine

/-! ### A transfer begins (R67, R76, R77, R163) -/

theorem State.transfer_started (s : State) (code : Nat) (tag : Word) (payload : List Word) {bursts : List Burst}
    {n : Nat} (kind : TransferKind) (hlen : bursts.length = n) (hn : n ≠ 0) :
    (s.started code tag payload .now).transfer bursts kind =
      { s.started code tag payload (.transfer bursts.tail n [] kind) with
        mmc := { s.mmc with hostWaits := bursts.head? } } := by
  subst hlen
  obtain ⟨b, todo, rfl⟩ := List.exists_cons_of_ne_nil (List.ne_nil_of_length_pos (Nat.pos_of_ne_zero hn))
  exact State.presentHost_of_exec (s := (s.started code tag payload .now).setJob _) rfl

/-! ### The bursts of the rows (R70) -/

theorem rowsOf_eq (n : Nat) (ws : List Word) :
    rowsOf n ws = (List.range n).map fun i => (ws.drop (256 * i)).take 256 := by
  induction n generalizing ws with
  | zero => rfl
  | succ n ih =>
    rw [rowsOf, ih, List.range_succ_eq_map, List.map_cons, List.map_map]
    refine congrArg (_ :: ·) (List.map_congr_left fun i _ => ?_)
    rw [List.drop_drop, Function.comp_apply, Nat.mul_succ, Nat.add_comm]

theorem writeBursts_eq (e : DirEntry) (k : BankId) (g first count : Nat) (coefficients : List Word) :
    writeBursts e k g first count coefficients = (List.range count).map fun i =>
      rowBurst e k g (first + i) (some ((coefficients.drop (256 * i)).take 256)) := by
  rw [writeBursts, rowsOf_eq]
  refine List.ext_getElem (by simp) fun i hi hj => ?_
  simp

/-! ### The checks (R75, R77) -/

theorem rowFields_of_outside {bank block first count : Word} (h : 1 < bank.toNat ∨ 63 < block.toNat ∨
    1023 < first.toNat ∨ count.toNat < 1 ∨ 4 < count.toNat) : rowFields bank block first count = none := by
  unfold rowFields
  split
  · exact BankId.ofNumber_of_gt (by omega)
  · rfl

theorem State.writeMatrix_of_outside {s : State} {bank block first count : Word} {coefficients : List Word}
    (hlen : coefficients.length ≤ 1024) (hfields : rowFields bank block first count = none) :
    State.writeMatrix (bank :: block :: first :: count :: coefficients) s = s.complete .invalid [] := by
  simp only [State.writeMatrix, if_neg (Nat.not_lt.mpr hlen), hfields]

theorem State.readMatrix_of_outside {s : State} {bank block first count : Word}
    (hfields : rowFields bank block first count = none) :
    State.readMatrix [bank, block, first, count] s = s.complete .invalid [] := by
  simp only [State.readMatrix, hfields]

theorem State.readMatrix_of_fields {s : State} {bank block first count : Word} {k : BankId}
    (hfields : rowFields bank block first count = some k) :
    State.readMatrix [bank, block, first, count] s =
      if (s.entry k block.toNat).present = false then s.complete .notPresent []
      else if (s.entry k block.toNat).rowsOutside first.toNat count.toNat then s.complete .length []
      else s.transfer (readBursts (s.entry k block.toNat) k block.toNat first.toNat count.toNat) .readMatrix := by
  simp only [State.readMatrix, hfields]

/-! ### How a transfer ends (R76, R77, R163) -/

theorem State.hostBurstEnded_of_exec {s : State} {r : Request} {todo : List Burst} {left : Nat} {got : List Word}
    {kind : TransferKind} (hexec : s.clp.inExec = some ⟨r, .transfer todo left got kind⟩) (ws : List Word) :
    s.hostBurstEnded ws =
      if 1 < left then
        { s with clp := { s.clp with inExec := some ⟨r, .transfer todo (left - 1) (got ++ ws) kind⟩ } }
      else s.hostDone kind (got ++ ws) := by
  unfold State.hostBurstEnded
  rw [hexec]
  by_cases hleft : 1 < left
  · refine (if_neg (Nat.not_le.mpr hleft)).trans (Eq.trans ?_ (if_pos hleft).symm)
    rw [State.setJob_eq, hexec]
    rfl
  · exact (if_pos (Nat.not_lt.mp hleft)).trans (if_neg hleft).symm

theorem Requester.isHost_iff (w : Requester) : w.isHost = true ↔ w = .hostMatrix ∨ w = .hostTelemetry := by
  cases w <;> decide

/-- Settles O26. -/
theorem matrixRequestsPresentOneBurstPerRow : Obligations.MatrixRequestsPresentOneBurstPerRow := by
  unfold Obligations.MatrixRequestsPresentOneBurstPerRow
  refine ⟨?_, ?_, ?_, ?_⟩
  · intro s tag bank block first count coefficients h hlen k e refuse rows
    let t := s.started 15 tag (bank :: block :: first :: count :: coefficients) .now
    refine (request_of_ready h 15 tag).trans (congrArg Host.Outcome.next ?_)
    have hanswer (r : Result) : (t.complete r []).transmit = refuse r := State.transmit_refused h r []
    by_cases hfields : 1 < bank.toNat ∨ 63 < block.toNat ∨ 1023 < first.toNat ∨ count.toNat < 1 ∨ 4 < count.toNat
    · refine Eq.trans (congrArg State.transmit ?_) ((hanswer .invalid).trans (if_pos hfields).symm)
      exact State.writeMatrix_of_outside hlen (rowFields_of_outside hfields)
    · have hcount : rows.length = count.toNat := (List.length_map _).trans List.length_range
      have hwrite := State.writeMatrix_of_fields (s := t) hlen
        (rowFields_of_in_range (bank := bank) (block := block) (first := first) (count := count)
          (by omega) (by omega) (by omega) (by omega) (by omega))
      refine (congrArg State.transmit hwrite).trans (Eq.trans ?_ (if_neg hfields).symm)
      refine transmit_ite_congr Iff.rfl (fun _ => hanswer _) fun _ => ?_
      refine transmit_ite_congr Iff.rfl (fun _ => hanswer _) fun _ => ?_
      refine transmit_ite_congr Iff.rfl (fun _ => hanswer _) fun _ => ?_
      refine transmit_ite_congr (e.rowsOutside_iff _ _) (fun _ => hanswer _) fun _ => ?_
      refine transmit_ite_congr Iff.rfl (fun _ => hanswer _) fun _ => ?_
      refine (congrArg (fun bursts => (t.transfer bursts .writeMatrix).transmit) (writeBursts_eq ..)).trans ?_
      exact congrArg State.transmit (State.transfer_started s 15 tag _ .writeMatrix hcount (by omega))
  · intro s tag bank block first count h k e refuse rows
    let t := s.started 16 tag [bank, block, first, count] .now
    refine (request_of_ready h 16 tag).trans (congrArg Host.Outcome.next ?_)
    have hanswer (r : Result) : (t.complete r []).transmit = refuse r := State.transmit_refused h r []
    by_cases hfields : 1 < bank.toNat ∨ 63 < block.toNat ∨ 1023 < first.toNat ∨ count.toNat < 1 ∨ 4 < count.toNat
    · refine Eq.trans (congrArg State.transmit ?_) ((hanswer .invalid).trans (if_pos hfields).symm)
      exact State.readMatrix_of_outside (rowFields_of_outside hfields)
    · have hcount : rows.length = count.toNat := (List.length_map _).trans List.length_range
      have hread := State.readMatrix_of_fields (s := t)
        (rowFields_of_in_range (bank := bank) (block := block) (first := first) (count := count)
          (by omega) (by omega) (by omega) (by omega) (by omega))
      refine (congrArg State.transmit hread).trans (Eq.trans ?_ (if_neg hfields).symm)
      refine transmit_ite_congr Iff.rfl (fun _ => hanswer _) fun _ => ?_
      refine transmit_ite_congr (e.rowsOutside_iff _ _) (fun _ => hanswer _) fun _ => ?_
      exact congrArg State.transmit (State.transfer_started s 16 tag _ .readMatrix hcount (by omega))
  · intro s r todo left got ws kind hexec
    rw [State.hostBurstEnded_of_exec hexec]
    refine ite_congr rfl (fun _ => rfl) fun _ => ?_
    cases kind <;> rfl
  · intro s b
    simp only [State.hostReadFails, Requester.isHost_iff]
    rfl

end Sys2Proof.Machine
end

section
/-! PROOF. The end of a record's bursts, its join to the unread list, the cut and the freeze (R159 to R162). -/

namespace Sys2Proof.Machine

theorem State.freeIfReleased_frame (s : State) (x : BufferId) :
    s.freeIfReleased x = { s with sau := (s.freeIfReleased x).sau } := by
  unfold State.freeIfReleased
  split
  · cases x <;> rfl
  · rfl

theorem State.freeIfReleased_tmr (s : State) (x : BufferId) : (s.freeIfReleased x).tmr = s.tmr := by
  rw [s.freeIfReleased_frame x]

section
variable {s : State} {w : Writing} {g : Geometry} {c : TelemetryConfig}

theorem Tmr.layout_of_config {t : Tmr} (h : t.config = some c) : t.layout = c.sections := by
  unfold Tmr.layout
  rw [h]

/-! ### The record in writing (R159 to R161) -/

/-- The record in writing at the tail of the unread list. -/
def State.joined (s : State) (w : Writing) (g : Geometry) : State :=
  { s with tmr := { s.tmr with
    writing := none
    unread := s.tmr.unread ++ [⟨w.slot, w.tag, w.sections⟩]
    nextSlot := if w.slot + 1 < g.capacity then w.slot + 1 else 0
    counts := { s.tmr.counts with written := s.tmr.counts.written + 1 } } }

theorem State.joinUnread_of_writing (hw : s.tmr.writing = some w) (hg : s.tmr.geometry = some g)
    (hc : s.tmr.config = some c) :
    s.joinUnread =
      if c.threshold ≠ 0 ∧ s.tmr.unread.length + 1 = c.threshold then
        (s.joined w g).raise (.telemetryLevel c.threshold g.capacity)
      else s.joined w g := by
  have hlength : (s.tmr.unread ++ [(⟨w.slot, w.tag, w.sections⟩ : UnreadRecord)]).length = s.tmr.unread.length + 1 :=
    List.length_append
  unfold State.joinUnread
  rw [hw, hg, hc]
  refine ite_congr (congrArg (fun n => c.threshold ≠ 0 ∧ n = c.threshold) hlength) (fun hlevel => ?_) fun _ => rfl
  exact congrArg (fun n => (s.joined w g).raise (.telemetryLevel n g.capacity)) (hlength.trans hlevel.2)

theorem State.releaseHold_of_writing (hw : s.tmr.writing = some w) :
    s.releaseHold =
      State.freeIfReleased { s with tmr := { s.tmr with writing := some { w with holds := false } } } w.buffer := by
  unfold State.releaseHold
  rw [hw]
  rfl

/-- The record in writing is counted as cut, and its bursts are withdrawn or dropped. -/
def State.recordCounted (s : State) : State :=
  { s with
    mmc := { s.mmc with
      recorderWaits := none
      port := s.mmc.port.map fun p => if p.who = .telemetry then { p with dropped := true } else p }
    tmr := { s.tmr with writing := none, counts := { s.tmr.counts with cut := s.tmr.counts.cut + 1 } } }

theorem State.cutRecord_of_writing (hw : s.tmr.writing = some w) :
    s.cutRecord = s.recordCounted.freeIfReleased w.buffer := by
  unfold State.cutRecord
  rw [hw]
  rfl

theorem State.cutRecord_of_none (hw : s.tmr.writing = none) : s.cutRecord = s := by
  unfold State.cutRecord
  rw [hw]

/-- The end of the last burst that holds slope words ends the hold. -/
theorem State.recordBurstEnded_of_writing (hw : s.tmr.writing = some w) (hg : s.tmr.geometry = some g)
    (hc : s.tmr.config = some c) (row : Nat) :
    let t : State := if w.holds = true ∧ row = lastSlopeBurst c.sections g then
        State.freeIfReleased { s with tmr := { s.tmr with writing := some { w with holds := false } } } w.buffer
      else s
    s.recordBurstEnded row = if row + 1 = g.slotSize then t.joinUnread else t := by
  unfold State.recordBurstEnded
  rw [hw, hg]
  dsimp only
  rw [Tmr.layout_of_config hc, State.releaseHold_of_writing hw]

/-! ### The freeze (R162) -/

theorem State.freeze_of_ring (henabled : s.tmr.enabled = true) (hc : s.tmr.config = some c) (hmode : c.mode = .ring)
    (cause : TripCause) (frame : Word) :
    s.freeze cause frame = State.raise { s with tmr := { s.tmr with enabled := false, frozen := true } }
      (.telemetryFrozen cause frame s.tmr.unread.length) := by
  unfold State.freeze
  rw [henabled, hc]
  exact if_pos hmode

theorem State.freeze_of_other (h : s.tmr.enabled = false ∨ s.tmr.config = none ∨
    ∃ c, s.tmr.config = some c ∧ c.mode = .queue) (cause : TripCause) (frame : Word) : s.freeze cause frame = s := by
  unfold State.freeze
  split
  · next c henabled hc =>
    obtain hdisabled | hnone | ⟨c', hc', hmode⟩ := h
    · exact absurd (henabled.symm.trans hdisabled) (by decide)
    · exact nomatch hc.symm.trans hnone
    · obtain rfl := Option.some.inj (hc.symm.trans hc')
      exact if_neg (by rw [hmode]; decide)
  · rfl

end

/-- Settles O49. -/
theorem recordsJoinOrAreCut : Obligations.RecordsJoinOrAreCut := by
  unfold Obligations.RecordsJoinOrAreCut
  refine ⟨?_, fun s w => State.cutRecord_of_writing, fun s => State.cutRecord_of_none, fun s cause frame =>
    ⟨fun c henabled hc hmode => State.freeze_of_ring henabled hc hmode cause frame,
      fun h => State.freeze_of_other h cause frame⟩⟩
  intro s w g c row hw hg hc lastSlope t u
  have ht : ∃ w' : Writing, t.tmr = { s.tmr with writing := some w' } ∧ w'.slot = w.slot ∧ w'.tag = w.tag ∧
      w'.sections = w.sections := by
    unfold t
    split
    · exact ⟨{ w with holds := false }, State.freeIfReleased_tmr _ _, rfl, rfl, rfl⟩
    · exact ⟨w, by rw [← hw], rfl, rfl, rfl⟩
  obtain ⟨w', htmr, hslot, htag, hsections⟩ := ht
  have hjoined : t.joined w' g = u := by
    unfold State.joined u
    rw [htmr, hslot, htag, hsections]
  have hunread : t.tmr.unread = s.tmr.unread := by rw [htmr]
  refine (State.recordBurstEnded_of_writing hw hg hc row).trans (ite_congr rfl (fun _ => ?_) fun _ => rfl)
  refine (State.joinUnread_of_writing (s := t) (w := w') (by rw [htmr]) (by rw [htmr]; exact hg)
    (by rw [htmr]; exact hc)).trans ?_
  rw [hjoined, hunread]

end Sys2Proof.Machine
end

section
/-! PROOF. A due record: whether it starts, its header, its words and its bursts (R152, R156 to R159, R182). -/

namespace Sys2Proof.Machine

/-! ### The decision (R157) -/

section
variable {s : State} {x : BufferId} {r : CycleReport} {g : Geometry} {c : TelemetryConfig}

/-- The record is late, goes into the next slot, or finds the store full. -/
theorem State.recordDue_of_config (hg : s.tmr.geometry = some g) (hc : s.tmr.config = some c) :
    let full : State := { s with tmr := { s.tmr with counts := { s.tmr.counts with
      full := s.tmr.counts.full + 1 } } }
    s.recordDue x r =
      if s.tmr.writing ≠ none then
        { s with tmr := { s.tmr with counts := { s.tmr.counts with late := s.tmr.counts.late + 1 } } }
      else if s.tmr.unread.length < g.capacity then s.startRecord x r
      else if c.mode = .queue then full
      else
        match s.tmr.unread with
        | [] => full
        | oldest :: rest =>
          if s.tmr.underRead = some oldest.slot then full
          else State.startRecord { s with tmr := { s.tmr with
            unread := rest, nextSlot := oldest.slot
            counts := { s.tmr.counts with overwritten := s.tmr.counts.overwritten + 1 } } } x r := by
  intro full
  unfold State.recordDue
  rw [hg, hc]
  exact ite_congr (propext Option.isSome_iff_ne_none) (fun _ => rfl) fun _ => rfl

/-! ### The record that starts (R158) -/

/-- The record of an outcome as it starts writing. -/
def State.recordOf (s : State) (x : BufferId) (r : CycleReport) (g : Geometry) (c : TelemetryConfig) : Writing :=
  let present := sectionsPresent c.sections (s.desc x) r
  { slot := s.tmr.nextSlot, tag := (s.desc x).tag
    header := headerWords s.tmr.sequence c.sections present (s.desc x) r
    sections := present, buffer := x, holds := present.slopes && decide (0 < g.blocks.sum)
    residuals := r.residuals, commands := r.commands.getD [], next := 0 }

theorem State.startRecord_of_config (hg : s.tmr.geometry = some g) (hc : s.tmr.config = some c) :
    s.startRecord x r =
      State.presentRecord { s with tmr := { s.tmr with writing := some (s.recordOf x r g c) } } := by
  have hholds : ((sectionsPresent c.sections (s.desc x) r).slopes && decide (0 < slopesLength c.sections g)) =
      ((sectionsPresent c.sections (s.desc x) r).slopes && decide (0 < g.blocks.sum)) := by
    unfold sectionsPresent slopesLength Geometry.slopeWords
    cases hslopes : c.sections.slopes <;> simp
  unfold State.startRecord
  rw [hg]
  dsimp only
  rw [Tmr.layout_of_config hc, hholds]
  rfl

end

/-! ### The header (R182) -/

theorem sensorMask_eq (d : Descriptor) (f : SensorStatus → Bool) :
    sensorMask d f = (((List.finRange 8).filter fun l => f d.sensors[l]).map (2 ^ ·.val)).sum :=
  (sum_map_filter (fun l : Link => f d.sensors[l]) (2 ^ ·.val) _).symm

theorem ite_isSome {α : Type} (o : Option α) (n : Nat) : (if o.isSome = true then n else 0) = if o = none then 0 else n := by
  cases o <;> rfl

theorem getD_ite_none {α : Type} (p : Prop) [Decidable p] (a b : α) :
    (if p then none else some a).getD b = if p then b else a := by
  split <;> rfl

theorem ite_none_some_eq_none {α : Type} (p : Prop) [Decidable p] (a : α) : (if p then none else some a) = none ↔ p := by
  split <;> simp [*]

/-! ### The words (R152, R159) -/

theorem signed2_eq : signed2 = fun p : Int =>
    [(BitVec.ofInt 32 p).extractLsb' 16 16, (BitVec.ofInt 32 p).extractLsb' 0 16] :=
  funext fun p => word2_toNat (BitVec.ofInt 32 p)

theorem State.presentRecord_of_writing {s : State} {w : Writing} {g : Geometry} {c : TelemetryConfig}
    (hw : s.tmr.writing = some w) (hg : s.tmr.geometry = some g) (hc : s.tmr.config = some c) :
    s.presentRecord =
      if w.next < g.slotSize then
        { s with
          mmc := { s.mmc with recorderWaits := some ⟨.telemetry, slotPlace c g w.slot + w.next,
            some (burstWords ((s.recordWords g w).drop (256 * w.next))), .zero, 0, w.next, false⟩ }
          tmr := { s.tmr with writing := some { w with next := w.next + 1 } } }
      else s := by
  unfold State.presentRecord
  rw [hw, hg, hc]
  rfl

/-- Settles O48. -/
theorem dueRecordsAreWritten : Obligations.DueRecordsAreWritten := by
  unfold Obligations.DueRecordsAreWritten
  refine ⟨fun s x r => rfl, ?_, fun s x r g c hg hc => State.startRecord_of_config hg hc, ?_, ?_, ?_⟩
  · intro s x r g c hg hc n full
    refine (State.recordDue_of_config hg hc).trans ?_
    refine ite_congr rfl (fun _ => rfl) fun _ => ite_congr rfl (fun _ => rfl) fun _ => ?_
    cases hmode : c.mode with
    | queue => rfl
    | ring =>
      rw [if_neg (by decide)]
      cases s.tmr.unread <;> rfl
  · intro n layout present d r one two done opened mask set
    unfold headerWords
    simp only [one, two, done, opened, mask, set, word1, word2_toNat, sensorMask_eq, SensorStatus.finished, Sections.mask,
      getD_ite_none, ite_isSome, ite_none_some_eq_none, Nat.reducePow, List.cons_append, List.nil_append]
  · intro s w g c hw hg hc slopes part words b
    have hwords : s.recordWords g w = words := by
      unfold State.recordWords
      rw [Tmr.layout_of_config hc, signed2_eq]
      rfl
    rw [State.presentRecord_of_writing hw hg hc, hwords]
    rfl
  · intro s x cause attached
    simp only [State.skipReport, beq_iff_eq]
    rfl

end Sys2Proof.Machine
end

section
/-! PROOF. SET_TELEMETRY and TELEMETRY_ENABLE (R151, R153, R154). -/

namespace Sys2Proof.Machine

/-! ### The fields (R151, R179) -/

section
variable {base pages : Nat} {sections n mode threshold : Word}

theorem TelemetryMode.ofNumber_of_gt {n : Nat} (h : 1 < n) : TelemetryMode.ofNumber n = none := by
  obtain ⟨m, rfl⟩ : ∃ m, n = m + 2 := ⟨n - 2, by omega⟩
  rfl

theorem TelemetryMode.ofNumber_of_le {w : Word} (h : w.toNat ≤ 1) :
    TelemetryMode.ofNumber w.toNat = some (if w = 0 then .ring else .queue) := by
  obtain rfl | rfl := toNat_eq_zero_or_one h <;> rfl

theorem Sections.ofMask_of_lt {w : Word} (h : w.toNat < 8) :
    Sections.ofMask w.toNat = some ⟨w.getLsbD 0, w.getLsbD 1, w.getLsbD 2⟩ := by
  rw [Sections.ofMask, if_pos h]
  simp [BitVec.getLsbD, Nat.testBit_eq_decide_div_mod_eq]

theorem telemetryFields_of_outside (h : 131071 < base ∨ pages < 1 ∨ 131072 < pages ∨ 7 < sections.toNat ∨
    n.toNat < 1 ∨ 1024 < n.toNat ∨ 1 < mode.toNat) : telemetryFields base pages sections n mode threshold = none := by
  unfold telemetryFields
  split
  · next x m hx hm =>
    refine if_neg fun hin => ?_
    have hsections : sections.toNat < 8 := by
      refine Decidable.byContradiction fun hlarge => ?_
      rw [Sections.ofMask, if_neg hlarge] at hx
      cases hx
    have hmode : mode.toNat ≤ 1 := by
      refine Decidable.byContradiction fun hlarge => ?_
      rw [TelemetryMode.ofNumber_of_gt (by omega)] at hm
      cases hm
    simp only [pagesInDram] at hin
    omega
  · rfl

theorem telemetryFields_of_inside (h : ¬(131071 < base ∨ pages < 1 ∨ 131072 < pages ∨ 7 < sections.toNat ∨
    n.toNat < 1 ∨ 1024 < n.toNat ∨ 1 < mode.toNat)) : telemetryFields base pages sections n mode threshold =
      some ⟨base, pages, ⟨sections.getLsbD 0, sections.getLsbD 1, sections.getLsbD 2⟩, n.toNat,
        if mode = 0 then .ring else .queue, threshold.toNat⟩ := by
  unfold telemetryFields
  rw [Sections.ofMask_of_lt (by omega), TelemetryMode.ofNumber_of_le (by omega)]
  exact if_pos (by simp only [pagesInDram]; omega)

end

/-! ### The record in writing cut as the store is set up (R160) -/

theorem State.freeIfReleased_clp (c : Clp) (s : State) (x : BufferId) :
    State.freeIfReleased { s with clp := c } x = { s.freeIfReleased x with clp := c } := by
  refine Eq.trans ?_ (apply_ite (fun u : State => { u with clp := c }) _ _ _).symm
  cases x <;> rfl

theorem State.cutRecord_started (s : State) (code : Nat) (tag : Word) (payload : List Word) (job : Job) :
    (s.started code tag payload job).cutRecord = { s.cutRecord with clp := (s.started code tag payload job).clp } := by
  cases hw : s.tmr.writing with
  | none => rw [State.cutRecord_of_none hw, State.cutRecord_of_none (s := s.started code tag payload job) hw]; rfl
  | some w =>
    rw [State.cutRecord_of_writing hw, State.cutRecord_of_writing (s := s.started code tag payload job) hw]
    exact State.freeIfReleased_clp (s.started code tag payload job).clp s.recordCounted w.buffer

theorem State.cutRecord_clp (s : State) : s.cutRecord.clp = s.clp := by
  cases hw : s.tmr.writing with
  | none => rw [State.cutRecord_of_none hw]
  | some w =>
    rw [State.cutRecord_of_writing hw, State.freeIfReleased_frame]
    rfl

theorem State.cutRecord_tmr (s : State) :
    { s.cutRecord.tmr with counts := s.tmr.counts } = { s.tmr with writing := none } := by
  cases hw : s.tmr.writing with
  | none => rw [State.cutRecord_of_none hw, ← hw]
  | some w =>
    rw [State.cutRecord_of_writing hw, State.freeIfReleased_tmr]
    rfl

/-! ### SET_TELEMETRY (R151) -/

/-- The checks of SET_TELEMETRY in order. -/
theorem State.setTelemetry_eq (s : State) (b1 b0 l1 l0 sections n mode threshold : Word) :
    let base := 65536 * b1.toNat + b0.toNat
    let len := 65536 * l1.toNat + l0.toNat
    let c : TelemetryConfig := ⟨base, len, ⟨sections.getLsbD 0, sections.getLsbD 1, sections.getLsbD 2⟩, n.toNat,
      if mode = 0 then .ring else .queue, threshold.toNat⟩
    State.setTelemetry [b1, b0, l1, l0, sections, n, mode, threshold] s =
      if s.tmr.enabled = true then s.complete .wrongState []
      else if 131071 < base ∨ len < 1 ∨ 131072 < len ∨ 7 < sections.toNat ∨ n.toNat < 1 ∨ 1024 < n.toNat ∨
          1 < mode.toNat then s.complete .invalid []
      else if 131072 < base + len then s.complete .length []
      else if s.mmc.bank0.overlaps base len none = true ∨ s.mmc.bank1.overlaps base len none = true then
        s.complete .overlap []
      else (s.configure c).complete .ok [] := by
  intro base len c
  unfold State.setTelemetry
  refine ite_congr rfl (fun _ => rfl) fun _ => ?_
  by_cases hfields : 131071 < base ∨ len < 1 ∨ 131072 < len ∨ 7 < sections.toNat ∨ n.toNat < 1 ∨ 1024 < n.toNat ∨
      1 < mode.toNat
  · have hnone : telemetryFields (natOf2 b1 b0) (natOf2 l1 l0) sections n mode threshold = none :=
      telemetryFields_of_outside hfields
    rw [hnone, if_pos hfields]
  · have hsome : telemetryFields (natOf2 b1 b0) (natOf2 l1 l0) sections n mode threshold = some c :=
      telemetryFields_of_inside hfields
    rw [hsome, if_neg hfields]
    exact ite_congr rfl (fun _ => rfl) fun _ => ite_congr (Bool.or_eq_true _ _) (fun _ => rfl) fun _ => rfl

/-! ### TELEMETRY_ENABLE (R153, R154) -/

theorem State.newGeometry_eq (s : State) (c : TelemetryConfig) :
    let counts := (List.finRange 8).map fun l =>
      if (s.link l).entry.enabled = true then (s.link l).entry.blocks else 0
    let len := 32 + (if c.sections.slopes = true then 256 * counts.sum else 0) +
      (if c.sections.residuals = true then 2 * s.drp.settings.actuators else 0) +
      (if c.sections.commands = true then s.drp.settings.actuators else 0)
    let size := (len + 255) / 256
    s.newGeometry c = ⟨size, c.pages * 8 / size, s.drp.settings.actuators, counts⟩ := by
  intro counts len size
  have hblocks : s.enabledBlocks = counts := by
    unfold State.enabledBlocks
    rw [toList_eq_map_finRange, List.map_map]
    rfl
  unfold State.newGeometry
  rw [hblocks]
  rfl

section
variable {s : State} {c : TelemetryConfig}

theorem State.telemetryEnable_of_gt {v : Word} (hv : 1 < v.toNat) (s : State) :
    State.telemetryEnable [v] s = s.complete .invalid [] := by
  simp only [State.telemetryEnable, enableOfNumber_of_gt hv]

theorem State.telemetryEnable_disable (s : State) :
    State.telemetryEnable [1] s = State.complete { s with tmr := { s.tmr with enabled := false } } .ok [] := rfl

theorem State.telemetryEnable_refused (h : s.tmr.config = none ∨ s.tmr.enabled = true) :
    State.telemetryEnable [0] s = s.complete .wrongState [] := by
  unfold State.telemetryEnable
  obtain hconfig | henabled := h
  · rw [hconfig]
    rfl
  · rw [henabled]
    cases s.tmr.config <;> rfl

theorem State.telemetryEnable_of_config (hc : s.tmr.config = some c) (henabled : s.tmr.enabled = false) :
    State.telemetryEnable [0] s =
      if (s.newGeometry c).capacity < 2 then s.complete .length []
      else (s.enableStore (s.newGeometry c)).complete .ok
        (word1 (s.newGeometry c).slotSize ++ word2 (s.newGeometry c).capacity) := by
  unfold State.telemetryEnable
  rw [hc, henabled]
  rfl

/-- A store that is enabled keeps nothing of the record that was cut. -/
theorem State.enableStore_started (s : State) (g : Geometry) (code : Nat) (tag : Word) (payload : List Word) (job : Job) :
    (s.started code tag payload job).enableStore g = { s.cutRecord with
      tmr := { s.tmr with
        geometry := some g, enabled := true, frozen := false, decimated := 0, sequence := 0, unread := [], nextSlot := 0
        writing := none, counts := .zero }
      clp := (s.started code tag payload job).clp } := by
  unfold State.enableStore
  rw [State.cutRecord_started]
  have htmr := congrArg (fun t : Tmr => { t with
    geometry := some g, enabled := true, frozen := false, decimated := 0, sequence := 0, unread := [], nextSlot := 0
    counts := .zero }) s.cutRecord_tmr
  exact congrArg (fun t : Tmr => { s.cutRecord with tmr := t, clp := (s.started code tag payload job).clp }) htmr

end

theorem exec_telemetryEnable_of_ready {s : State} {v : Word} (h : s.Ready [v]) (tag : Word) :
    exec (.telemetryEnable tag [v]) s =
      .next (State.telemetryEnable [v] (s.started 29 tag [v] .now)).transmit :=
  request_of_ready h 29 tag

/-- Settles O47. -/
theorem telemetryStoreIsSetUp : Obligations.TelemetryStoreIsSetUp := by
  unfold Obligations.TelemetryStoreIsSetUp
  refine ⟨?_, fun s tag v h => ⟨fun hv => ?_, fun hv => ?_, fun hv hbad => ?_, ?_⟩, fun b base len => ?_⟩
  · intro s tag b1 b0 l1 l0 sections n mode threshold h base len c refuse
    let payload := [b1, b0, l1, l0, sections, n, mode, threshold]
    have hanswer (r : Result) : ((s.started 28 tag payload .now).complete r []).transmit = refuse r :=
      State.transmit_refused h r []
    refine (request_of_ready h 28 tag).trans (congrArg Host.Outcome.next ?_)
    refine (congrArg State.transmit (State.setTelemetry_eq ..)).trans ?_
    refine transmit_ite_congr Iff.rfl (fun _ => hanswer _) fun _ => ?_
    refine transmit_ite_congr Iff.rfl (fun _ => hanswer _) fun _ => ?_
    refine transmit_ite_congr Iff.rfl (fun _ => hanswer _) fun _ => ?_
    refine transmit_ite_congr Iff.rfl (fun _ => hanswer _) fun _ => ?_
    unfold State.configure
    rw [State.cutRecord_started]
    refine State.transmit_done (u := { s.cutRecord with tmr := { s.cutRecord.tmr with
      config := some c, unread := [], geometry := none, nextSlot := 0 } }) h rfl ?_
    exact congrArg (fun clp : Clp => { s.cutRecord with
      tmr := { s.cutRecord.tmr with config := some c, unread := [], geometry := none, nextSlot := 0 }, clp := clp })
      s.cutRecord_clp
  · rw [exec_telemetryEnable_of_ready h, State.telemetryEnable_of_gt hv, State.transmit_refused h]
  · subst hv
    rw [exec_telemetryEnable_of_ready h, State.telemetryEnable_disable]
    exact congrArg Host.Outcome.next (State.transmit_done h rfl rfl)
  · subst hv
    rw [exec_telemetryEnable_of_ready h, State.telemetryEnable_refused (s := s.started 29 tag [0] .now) hbad,
      State.transmit_refused h]
  · intro c hv hc henabled counts len size capacity
    subst hv
    have hgeometry : (s.started 29 tag [0] .now).newGeometry c =
        ⟨size, capacity, s.drp.settings.actuators, counts⟩ := State.newGeometry_eq _ c
    rw [exec_telemetryEnable_of_ready h, State.telemetryEnable_of_config (s := s.started 29 tag [0] .now) hc henabled,
      hgeometry, State.enableStore_started]
    refine congrArg (Host.Outcome.next ∘ State.transmit) (ite_congr rfl (fun _ => ?_) fun _ => ?_)
    · exact State.complete_started h _ _ _ _ _
    · refine State.complete_eq_answered h rfl ?_
      exact congrArg (fun clp : Clp => { s.cutRecord with
        tmr := { s.tmr with
          geometry := some ⟨size, capacity, s.drp.settings.actuators, counts⟩, enabled := true, frozen := false
          decimated := 0, sequence := 0, unread := [], nextSlot := 0, writing := none, counts := .zero }
        clp := clp }) s.cutRecord_clp
  · simp [Bank.overlaps_iff]

end Sys2Proof.Machine
end

section
/-! PROOF. READ_TELEMETRY and RELEASE_TELEMETRY (R152, R163, R164). -/

namespace Sys2Proof.Machine

theorem SectionName.ofNumber_of_gt {n : Nat} (h : 3 < n) : SectionName.ofNumber n = none := by
  obtain ⟨m, rfl⟩ : ∃ m, n = m + 4 := ⟨n - 4, by omega⟩
  rfl

theorem eq_of_toNat_le_three {w : Word} (h : w.toNat ≤ 3) : w = 0 ∨ w = 1 ∨ w = 2 ∨ w = 3 := by
  bv_omega

section
variable {s : State} {o1 o0 sec offset n : Word} {name : SectionName}

/-! ### The checks of READ_TELEMETRY (R163) -/

theorem State.readTelemetry_of_outside (h : 3 < sec.toNat ∨ n.toNat < 1 ∨ 2048 < n.toNat) :
    State.readTelemetry [o1, o0, sec, offset, n] s = s.complete .invalid [] := by
  unfold State.readTelemetry
  dsimp only
  split
  · next name hname =>
    refine if_pos (h.resolve_left fun hsec => ?_)
    rw [SectionName.ofNumber_of_gt hsec] at hname
    cases hname
  · rfl

theorem State.readTelemetry_of_empty (hname : SectionName.ofNumber sec.toNat = some name) (hmin : 1 ≤ n.toNat) (hmax : n.toNat ≤ 2048)
    (hunread : s.tmr.unread[natOf2 o1 o0]? = none) :
    State.readTelemetry [o1, o0, sec, offset, n] s = s.complete .empty [] := by
  unfold State.readTelemetry
  dsimp only
  rw [hname]
  refine (if_neg (by omega)).trans ?_
  rw [hunread]

theorem State.readTelemetry_of_record {r : UnreadRecord} {c : TelemetryConfig} {g : Geometry}
    (hname : SectionName.ofNumber sec.toNat = some name) (hmin : 1 ≤ n.toNat) (hmax : n.toNat ≤ 2048)
    (hr : s.tmr.unread[natOf2 o1 o0]? = some r) (hc : s.tmr.config = some c) (hg : s.tmr.geometry = some g) :
    State.readTelemetry [o1, o0, sec, offset, n] s =
      if name.carried r.sections = false then s.complete .invalid []
      else if name.length c.sections g < offset.toNat + n.toNat then s.complete .invalid []
      else s.readRecord c g r.slot (name.start c.sections g + offset.toNat) n.toNat := by
  unfold State.readTelemetry
  dsimp only
  rw [hname]
  refine (if_neg (by omega)).trans ?_
  rw [hr, hc, hg]

end

/-- A READ_TELEMETRY that goes on, as it starts. -/
theorem State.readRecord_started (s : State) (tag : Word) (payload : List Word) (c : TelemetryConfig) (g : Geometry)
    (slot start : Nat) {count : Nat} (hcount : 1 ≤ count) :
    let bursts := telemetryBursts c g slot start count
    (s.started 30 tag payload .now).readRecord c g slot start count =
      { s.started 30 tag payload (.transfer bursts.tail bursts.length [] (.readTelemetry (start % 256) count)) with
        tmr := { s.tmr with underRead := some slot }
        mmc := { s.mmc with hostWaits := bursts.head? } } := by
  intro bursts
  have hlength : bursts.length ≠ 0 := by
    unfold bursts telemetryBursts
    rw [List.length_map, List.length_range]
    omega
  exact State.transfer_started { s with tmr := { s.tmr with underRead := some slot } } 30 tag payload _ rfl hlength

/-- Settles O51. -/
theorem telemetryRecordsAreReadAndReleased : Obligations.TelemetryRecordsAreReadAndReleased := by
  unfold Obligations.TelemetryRecordsAreReadAndReleased
  refine ⟨?_, ?_⟩
  · intro s tag o1 o0 sec offset n h payload refuse
    let t := s.started 30 tag payload .now
    have hanswer {r : Result} (hread : State.readTelemetry payload t = t.complete r []) :
        exec (.readTelemetry tag payload) s = refuse r :=
      (request_of_ready h 30 tag).trans (congrArg Host.Outcome.next
        ((congrArg State.transmit hread).trans (State.transmit_refused h r [])))
    refine ⟨fun hbad => hanswer (State.readTelemetry_of_outside hbad), fun hsec hmin hmax => ⟨fun hempty => ?_, ?_⟩⟩
    · obtain ⟨name, hname⟩ : ∃ name, SectionName.ofNumber sec.toNat = some name := by
        obtain rfl | rfl | rfl | rfl := eq_of_toNat_le_three hsec <;> exact ⟨_, rfl⟩
      exact hanswer (State.readTelemetry_of_empty hname hmin hmax (List.getElem?_eq_none hempty))
    · intro r c g hr hc hg slopes residuals place
      have hrecord {name : SectionName} (hname : SectionName.ofNumber sec.toNat = some name) :=
        State.readTelemetry_of_record (s := t) (offset := offset) hname hmin hmax hr hc hg
      have habsent {name : SectionName} (hname : SectionName.ofNumber sec.toNat = some name)
          (hcarried : name.carried r.sections = false) :
          exec (.readTelemetry tag payload) s = refuse .invalid :=
        hanswer ((hrecord hname).trans (if_pos hcarried))
      have hpresent {name : SectionName} (hname : SectionName.ofNumber sec.toNat = some name)
          (hcarried : name.carried r.sections = true) :
          exec (.readTelemetry tag payload) s =
            if name.length c.sections g < offset.toNat + n.toNat then refuse .invalid
            else .next (t.readRecord c g r.slot (name.start c.sections g + offset.toNat) n.toNat).transmit := by
        have hread := (hrecord hname).trans (if_neg (by rw [hcarried]; decide))
        by_cases hlong : name.length c.sections g < offset.toNat + n.toNat
        · exact (hanswer (hread.trans (if_pos hlong))).trans (if_pos hlong).symm
        · refine Eq.trans ?_ (if_neg hlong).symm
          exact (request_of_ready h 30 tag).trans
            (congrArg (Host.Outcome.next ∘ State.transmit) (hread.trans (if_neg hlong)))
      simp only [t, State.readRecord_started s tag payload c g r.slot _ hmin] at hpresent
      obtain ⟨name, hname, hwhere⟩ : ∃ name, SectionName.ofNumber sec.toNat = some name ∧
          place = if name.carried r.sections = true then
            some (name.start c.sections g, name.length c.sections g) else none := by
        obtain rfl | rfl | rfl | rfl := eq_of_toNat_le_three hsec
        · exact ⟨.header, rfl, rfl⟩
        · exact ⟨.slopes, rfl, rfl⟩
        · exact ⟨.residuals, rfl, rfl⟩
        · exact ⟨.commands, rfl, rfl⟩
      cases hcarried : name.carried r.sections with
      | false =>
        rw [hwhere, if_neg (by rw [hcarried]; decide)]
        exact habsent hname hcarried
      | true =>
        rw [hwhere, if_pos hcarried]
        exact hpresent hname hcarried
  · intro s tag n1 n0 h removed left
    refine (request_of_ready h 31 tag).trans (congrArg Host.Outcome.next ?_)
    exact State.transmit_done h rfl rfl

end Sys2Proof.Machine
end

section
/-! PROOF. What each code does in each state of the control-link receiver (R167), and how a request arrives, is
taken into execution and answered (R168 to R170). -/

namespace Sys2Proof.Machine

/-! ### The receiver (R167) -/

section
variable (s : State)

theorem State.takeIdle_eq :
    s.updClp Clp.takeIdle =
      if s.clp.receiver = .hunt then { s with clp := { s.clp with receiver := .sync } } else s := by
  unfold State.updClp Clp.takeIdle
  cases s.clp.receiver <;> rfl

theorem State.takeOpen_eq :
    s.updClp Clp.takeOpen =
      if s.clp.receiver = .sync then
        { s with clp := { s.clp with receiver := .receiving, line := .start, buffer := [] } }
      else if s.clp.receiver = .receiving then
        { s with clp := { s.clp with line := .start, buffer := [], receiveErrors := s.clp.receiveErrors + 1 } }
      else s := by
  unfold State.updClp Clp.takeOpen
  split
  · next hsync => rw [if_pos hsync]
  · next hreceiving =>
    rw [if_neg (by rw [hreceiving]; decide), if_pos hreceiving]
    rfl
  · next hhunt => rw [if_neg (by rw [hhunt]; decide), if_neg (by rw [hhunt]; decide)]
  · next hdisabled => rw [if_neg (by rw [hdisabled]; decide), if_neg (by rw [hdisabled]; decide)]

theorem State.takeWord_eq (w : Word) :
    s.updClp (·.takeWord w) =
      if s.clp.receiver = .receiving then
        { s with clp := { s.clp with
          line := ⟨s.clp.line.count + 1, crcWord s.clp.line.crc w, s.clp.line.crc, w⟩
          buffer := if s.clp.buffer.length < 2053 then s.clp.buffer ++ [w] else s.clp.buffer } }
      else if s.clp.receiver = .sync then
        { s with clp := { s.clp with receiveErrors := s.clp.receiveErrors + 1 } }
      else s := by
  unfold State.updClp Clp.takeWord
  dsimp only
  split
  · next hreceiving =>
    rw [if_pos hreceiving]
    rfl
  · next hsync =>
    rw [if_neg (by rw [hsync]; decide), if_pos hsync]
    rfl
  · next hhunt => rw [if_neg (by rw [hhunt]; decide), if_neg (by rw [hhunt]; decide)]
  · next hdisabled => rw [if_neg (by rw [hdisabled]; decide), if_neg (by rw [hdisabled]; decide)]

theorem State.loseLine_eq :
    s.updClp Clp.loseLine =
      if s.clp.receiver = .sync ∨ s.clp.receiver = .receiving then
        { s with clp := { s.clp with receiver := .hunt, buffer := [], syncLosses := s.clp.syncLosses + 1 } }
      else s := by
  unfold State.updClp Clp.loseLine
  cases s.clp.receiver <;> rfl

end

/-- Settles O52. -/
theorem controlReceiverTakesEachCode : Obligations.ControlReceiverTakesEachCode := by
  unfold Obligations.ControlReceiverTakesEachCode
  intro s hreset c
  refine ⟨?_, ?_, fun w => ⟨rfl, ?_⟩, fun k => ?_⟩
  · exact (act_of_not_inReset hreset (·.updClp Clp.takeIdle)).trans
      (congrArg (Host.Outcome.next ∘ State.settle) s.takeIdle_eq)
  · exact (act_of_not_inReset hreset (·.updClp Clp.takeOpen)).trans
      (congrArg (Host.Outcome.next ∘ State.settle) s.takeOpen_eq)
  · exact (act_of_not_inReset hreset (·.updClp (·.takeWord w))).trans
      (congrArg (Host.Outcome.next ∘ State.settle) (s.takeWord_eq w))
  · exact (act_of_not_inReset hreset (·.updClp Clp.loseLine)).trans
      (congrArg (Host.Outcome.next ∘ State.settle) s.loseLine_eq)

/-! ### CLOSE (R167, R168) -/

theorem goodRequest_iff (line : LineCheck) (ws : List Word) :
    goodRequest line ws = true ↔ 5 ≤ line.count ∧ line.prior = line.latest ∧
      line.count = (packetWord ws 3).toNat + 5 ∧ line.count ≤ 2053 ∧ (packetWord ws 0).toNat < 16384 := by
  have hkind (n : Nat) : n / 16384 = 0 ↔ n < 16384 := Nat.div_eq_zero_iff_lt (by decide)
  simp only [goodRequest, LineCheck.crcPasses, Bool.and_eq_true, decide_eq_true_eq, beq_iff_eq, hkind, and_assoc]

section
variable {c : Clp}

theorem Clp.takeClose_of_deaf (h : c.receiver = .hunt ∨ c.receiver = .disabled) : c.takeClose = c := by
  unfold Clp.takeClose
  obtain h | h := h <;> rw [h]

theorem Clp.takeClose_of_sync (h : c.receiver = .sync) : c.takeClose = c.countError := by
  unfold Clp.takeClose
  rw [h]

theorem Clp.takeClose_of_receiving (h : c.receiver = .receiving) :
    c.takeClose =
      if goodRequest c.line c.buffer then
        Clp.takeRequest { c with receiver := .sync, buffer := [] } (requestOf c.buffer)
      else { c with receiver := .sync, buffer := [], receiveErrors := c.receiveErrors + 1 } := by
  unfold Clp.takeClose
  rw [h]
  rfl

end

theorem exec_controlMessageClose {s : State} (h : s.inReset = false) :
    exec .controlMessageClose s = .next (State.settle { s with clp := s.clp.takeClose }) :=
  act_of_not_inReset h (·.updClp Clp.takeClose)

/-- A request row is a good request's arrival (R168). -/
theorem request_of_fits {s : State} {code : Nat} {tag : Word} {payload : List Word} (h : s.inReset = false)
    (hfits : payload.length ≤ 2048) :
    request code tag payload s = .next (State.settle { s with clp := s.clp.takeRequest ⟨code, tag, payload⟩ }) :=
  (act_of_not_inReset h _).trans (congrArg (Host.Outcome.next ∘ State.settle) (if_pos hfits))

theorem request_of_long {s : State} {code : Nat} {tag : Word} {payload : List Word} (h : s.inReset = false)
    (hlong : 2048 < payload.length) : request code tag payload s = .next s.settle :=
  (act_of_not_inReset h _).trans (congrArg (Host.Outcome.next ∘ State.settle) (if_neg (Nat.not_le.mpr hlong)))

theorem fillPending_eq (r : Reply) : fillPending r = fun e => if e = .pending then .ready r else e := by
  funext e
  cases e <;> rfl

/-- Settles O53. -/
theorem goodRequestsAreQueued : Obligations.GoodRequestsAreQueued := by
  unfold Obligations.GoodRequestsAreQueued
  refine ⟨?_, ?_, ?_, State.carryOut_requests, ?_⟩
  · intro s hreset c ws good
    rw [exec_controlMessageClose hreset]
    refine ⟨(act_of_not_inReset hreset (·.updClp Clp.takeClose)).symm, fun hdeaf => ?_, fun hsync => ?_,
      fun hreceiving hbad => ?_, fun i hreceiving hgood hcode hi => ?_⟩
    · rw [Clp.takeClose_of_deaf hdeaf]
    · rw [Clp.takeClose_of_sync hsync]
      rfl
    · rw [Clp.takeClose_of_receiving hreceiving, if_neg fun hgood => hbad ((goodRequest_iff _ _).mp hgood)]
    · have hfits : ((ws.drop 4).take (packetWord ws 3).toNat).length ≤ 2048 := by
        obtain ⟨-, -, hcount, hmax, -⟩ := hgood
        refine Nat.le_trans (List.length_take_le _ _) ?_
        omega
      rw [Clp.takeClose_of_receiving hreceiving, if_pos ((goodRequest_iff _ _).mpr hgood),
        exec_of_request? hcode hi, request_of_fits (by exact hreset) hfits]
      rfl
  · intro s i code tag payload hreset hcode hi
    rw [exec_of_request? hcode hi]
    by_cases hlong : 2048 < payload.length
    · rw [request_of_long hreset hlong, if_pos hlong]
    · rw [request_of_fits hreset (Nat.not_lt.mp hlong), if_neg hlong]
      refine congrArg (Host.Outcome.next ∘ State.settle) ?_
      refine (apply_ite (fun c => ({ s with clp := c } : State)) _ _ _).trans (ite_congr rfl (fun _ => rfl) fun _ => ?_)
      exact apply_ite (fun c => ({ s with clp := c } : State)) _ _ _
  · intro s r rest hrequests hexec hhand hroom
    refine State.settle_of_cons hrequests ?_
    simp [State.mayStart, hexec, hhand, hroom]
  · intro s r j result ws hexec
    rw [State.complete_eq, hexec, ← fillPending_eq]

end Sys2Proof.Machine
end

section
/-! PROOF. The transmit arbiter, what follows every event, the end of a message, and the words of replies and
notices (R166, R169, R173, R179, R180). -/

namespace Sys2Proof.Machine

/-! ### The arbiter's choice (R173) -/

section
variable {s : State}

theorem State.transmit_of_busy (h : s.clp.sending ≠ none) : s.transmit = s := by
  obtain ⟨m, hm⟩ := Option.ne_none_iff_exists'.mp h
  exact State.transmit_of_sending hm

theorem State.transmit_of_free (h : s.clp.sending = none) : s.transmit = { s with clp := s.clp.chooseNext } := by
  refine congrArg (fun c => ({ s with clp := c } : State)) (if_pos ?_)
  rw [h]
  rfl

theorem Clp.chooseNext_of_reply {c : Clp} {r : Reply} {rest : List ReplyEntry} (h : c.replies = .ready r :: rest) :
    c.chooseNext = { c with sending := some (.reply r), replies := rest } := by
  unfold Clp.chooseNext
  rw [h]

theorem Clp.chooseNext_of_notice {c : Clp} {n : Notice} {ns : List Notice}
    (h : c.replies = [] ∨ c.replies.head? = some .pending) (hn : c.notices = n :: ns) :
    c.chooseNext = { c with sending := some (.notice n), notices := ns } := by
  unfold Clp.chooseNext
  obtain hempty | hpending := h
  · rw [hempty, hn]
  · obtain ⟨rest, hrest⟩ := List.head?_eq_some_iff.mp hpending
    rw [hrest, hn]

theorem Clp.chooseNext_of_nothing {c : Clp} (h : c.replies = [] ∨ c.replies.head? = some .pending)
    (hn : c.notices = []) : c.chooseNext = c := by
  unfold Clp.chooseNext
  obtain hempty | hpending := h
  · rw [hempty, hn]
  · obtain ⟨rest, hrest⟩ := List.head?_eq_some_iff.mp hpending
    rw [hrest, hn]

/-! ### What follows an event (R169) -/

theorem State.serveAll_of_full (h : 16 ≤ s.clp.replies.length) : s.serveAll = s := by
  refine State.serveAll_of_not_mayStart ?_
  simp [State.mayStart, h]

theorem State.serveAll_of_busy (h : s.clp.inExec ≠ none ∨ s.clp.resetInHand = true) : s.serveAll = s :=
  State.serveAll_of_not_mayStart (State.mayStart_eq_false h)

/-! ### The end of a message (R173, R177) -/

theorem isResetReply_iff (m : Sending) : isResetReply m = true ↔ ∃ tag ws, m = .reply ⟨5, tag, .ok, ws⟩ := by
  constructor
  · intro h
    match m, h with
    | .reply ⟨code, tag, result, ws⟩, h =>
      obtain ⟨hcode, hresult⟩ := Bool.and_eq_true_iff.mp h
      obtain rfl : code = 5 := beq_iff_eq.mp hcode
      obtain rfl : result = .ok := beq_iff_eq.mp hresult
      exact ⟨tag, ws, rfl⟩
  · rintro ⟨tag, ws, rfl⟩
    rfl

theorem State.finishMessage_of_none (h : s.clp.sending = none) : s.finishMessage = s := by
  unfold State.finishMessage
  rw [h]

/-- A message whose codes have all gone out. -/
def State.sent (s : State) (m : Sending) : State :=
  { s with controlOut := s.controlOut ++ m.codes, clp := { s.clp with sending := none } }

theorem State.finishMessage_of_sending {m : Sending} (h : s.clp.sending = some m) :
    s.finishMessage =
      if s.clp.resetInHand = true ∧ isResetReply m = true then (s.sent m).softResetAll else s.sent m := by
  unfold State.finishMessage
  rw [h]
  rfl

end

/-! ### Words (R166, R179) -/

theorem packetCodes_eq (ws : List Word) :
    packetCodes ws = .openSym :: ws.map .data ++ [.data (ws.foldl crcWord 0xFFFF), .closeSym] := by
  simp [packetCodes, crcOf]

theorem SkipCause.ofNat_number (c : SkipCause) : BitVec.ofNat 16 c.number = if c = .missing then 1 else 2 := by
  cases c <;> rfl

theorem TripCause.ofNat_number (c : TripCause) : BitVec.ofNat 16 c.number = if c = .skips then 1 else 2 := by
  cases c <;> rfl

theorem BankId.ofNat_number (k : BankId) : BitVec.ofNat 16 k.number = if k = .zero then 0 else 1 := by
  cases k <;> rfl

theorem ofNat_lossNumber (c : LossCause) : BitVec.ofNat 16 (lossNumber c) = if c = .abort then 0 else 1 := by
  cases c <;> rfl

/-- Settles O54. -/
theorem arbiterPrefersReplies : Obligations.ArbiterPrefersReplies := by
  unfold Obligations.ArbiterPrefersReplies
  refine ⟨fun s => ⟨State.transmit_of_busy, fun hfree => ⟨fun r rest hr => ?_, fun n ns hr hn => ?_, fun hr hn => ?_⟩⟩,
    fun s => ⟨fun h => ?_, fun hfull hbusy => ?_, fun hfull hexec hfree r rest hr => ?_, rfl, fun h => ?_⟩,
    fun s hreset => ⟨fun hnone => ?_, fun m hm hreply => ?_⟩, ?_⟩
  · rw [State.transmit_of_free hfree, Clp.chooseNext_of_reply hr]
  · rw [State.transmit_of_free hfree, Clp.chooseNext_of_notice hr hn]
  · rw [State.transmit_of_free hfree, Clp.chooseNext_of_nothing hr hn]
  · obtain hempty | hbusy := h
    · exact State.settle_of_nil hempty
    · exact State.settle_of_busy hbusy
  · rw [State.settle, State.serveAll_of_full hfull, State.transmit_of_busy hbusy, State.serveAll_of_full hfull]
  · rw [State.settle, State.serveAll_of_full hfull, State.transmit_of_free hfree, Clp.chooseNext_of_reply hr]
  · obtain hempty | hexec | hhand | hfull := h
    · exact State.serveAll_of_nil hempty
    · exact State.serveAll_of_busy (.inl hexec)
    · exact State.serveAll_of_busy (.inr hhand)
    · exact State.serveAll_of_full hfull
  · exact (act_of_not_inReset hreset _).trans
      (congrArg (Host.Outcome.next ∘ State.settle) (State.finishMessage_of_none hnone))
  · have hplain : ¬(s.clp.resetInHand = true ∧ isResetReply m = true) := by
      rintro ⟨hhand, hm⟩
      obtain ⟨tag, ws, rfl⟩ := (isResetReply_iff m).mp hm
      obtain hclear | hother := hreply
      · exact absurd (hhand.symm.trans hclear) (by decide)
      · exact hother tag ws rfl
    refine (act_of_not_inReset hreset _).trans (congrArg (Host.Outcome.next ∘ State.settle) ?_)
    refine ((State.finishMessage_of_sending hm).trans (if_neg hplain)).trans ?_
    rw [State.sent, Sending.codes, packetCodes_eq, ← List.append_assoc]
  · intro one two
    refine ⟨fun r => ?_, fun n => ?_, fun p => ?_, fun p => ?_, by decide, by decide, by decide⟩
    · rw [Sending.words, messageWord0, Nat.one_mul]
      rfl
    · have hkind : n.payload.kind.number % 256 = n.payload.kind.number := by cases n.payload.kind <;> rfl
      rw [Sending.words, messageWord0, hkind]
      rfl
    · cases p <;> rfl
    · cases p with
      | cycleSkipped tag cause skips => exact congrArg ([tag, ·, skips]) cause.ofNat_number
      | loopTripped cause frame value limit => exact congrArg ([·, frame, one value, one limit]) cause.ofNat_number
      | swapDone active tag =>
        cases tag with
        | none => exact congrArg ([·, 1]) active.ofNat_number
        | some tag => exact congrArg ([·, 0, tag]) active.ofNat_number
      | paramsApplied e => cases e <;> rfl
      | memoryError who place bank block row =>
        exact congrArg (fun k => [one who.number] ++ two (place / 8) ++ [one (place % 8)] ++
          if who = .hostTelemetry then [] else [k, one block, one row]) bank.ofNat_number
      | linkState l cause =>
        cases cause with
        | none => rfl
        | some cause => exact congrArg ([one l.val, 1, ·]) (ofNat_lossNumber cause)
      | ringState id joined => cases joined <;> rfl
      | telemetryLevel unread capacity => rfl
      | telemetryFrozen cause frame unread => exact congrArg ([·, frame] ++ two unread) cause.ofNat_number

end Sys2Proof.Machine
end

section
/-! PROOF. The hard reset: what it leaves, what happens under it, and its end (R62, R150, R173). -/

namespace Sys2Proof.Machine

theorem exec_hardResetEnd_of_inReset {s : State} (h : s.inReset = true) :
    exec .hardResetEnd s = .next { s with inReset := false, controlOut := s.controlOut ++ [.abort] } :=
  congrArg Host.Outcome.next (if_pos h)

theorem exec_hardResetEnd_of_not_inReset {s : State} (h : s.inReset = false) : exec .hardResetEnd s = .next s :=
  congrArg Host.Outcome.next (if_neg (by rw [h]; decide))

section
variable {s : State}

theorem execBurstEnd_of_inReset (h : s.inReset = true) {first : Bool} {errors : List BitError} :
    execBurstEnd first errors s = .next s := by
  unfold execBurstEnd
  rw [h]
  exact act_of_inReset h id

theorem execUnknownRequest_of_inReset (h : s.inReset = true) {code : Nat} {tag : Word} {payload : List Word} :
    execUnknownRequest code tag payload s = .next s := by
  unfold execUnknownRequest
  split
  · exact act_of_inReset h _
  · exact act_of_inReset h id

end

/-- While a hard reset lasts a command other than its end or a code on the ring changes nothing. -/
theorem exec_of_inReset {s : State} {i : Instr} (h : s.inReset = true) (hreset : i ≠ .hardReset)
    (hend : i ≠ .hardResetEnd) (hring : ringCodeOf i = none) : exec i s = .next s := by
  cases i with
  | hardReset => exact absurd rfl hreset
  | hardResetEnd => exact absurd rfl hend
  | ringHead => exact nomatch hring
  | ringHeadWord => exact nomatch hring
  | ringMark => exact nomatch hring
  | ringIdle => exact nomatch hring
  | ringCode c => cases c <;> exact nomatch hring
  | ringCodeViolation => exact nomatch hring
  | burstEnd first errors => exact execBurstEnd_of_inReset h
  | unknownRequest code tag payload => exact execUnknownRequest_of_inReset h
  | _ => exact congrArg Host.Outcome.next (if_pos h)

/-- Settles O58. -/
theorem hardResetRestartsThePart : Obligations.HardResetRestartsThePart := by
  unfold Obligations.HardResetRestartsThePart
  refine ⟨fun s => ⟨Config.codesSent s.drawn, Config.codesSent s.drawn, s.drawn + 1, rfl⟩,
    fun s => exec_hardResetEnd_of_inReset, fun s => exec_hardResetEnd_of_not_inReset, fun s => ?_,
    fun s i => exec_of_inReset, fun s i c hc => ?_⟩
  · exact ⟨State.hardResetAll { s with pending := [.hardResetEnd] }, rfl, _, rfl, rfl⟩
  · exact ⟨s.hardResetAll, rfl, (ringPortTakesEachCode s.hardResetAll i c hc).1 rfl rfl⟩

end Sys2Proof.Machine
end

section
/-! PROOF. RESET, and the soft reset at the CLOSE of its reply, block by block (R26, R28, R49, R62, R83, R84, R99,
R119, R133, R150, R165, R177). -/

namespace Sys2Proof.Machine

/-! ### RESET (R177) -/

theorem exec_reset_of_ready {s : State} (h : s.Ready []) (tag : Word) :
    exec (.reset tag []) s = .next (State.transmit { s with clp := { s.clp with
      inExec := some ⟨⟨5, tag, []⟩, .reset⟩
      resetInHand := true
      replies := s.clp.replies ++ [.ready ⟨5, tag, .ok, []⟩] } }) := by
  refine (request_of_ready h 5 tag).trans (congrArg (Host.Outcome.next ∘ State.transmit) ?_)
  obtain ⟨-, -, -, -, -, hpending, -⟩ := h
  have hreplies : (s.clp.replies ++ [ReplyEntry.pending]).map (fillPending ⟨5, tag, .ok, []⟩) =
      s.clp.replies ++ [.ready ⟨5, tag, .ok, []⟩] := by
    rw [List.map_append, map_fillPending_of_not_mem _ hpending]
    rfl
  exact congrArg (fun q => ({ s with clp := { s.clp with
    inExec := some ⟨⟨5, tag, []⟩, .reset⟩, resetInHand := true, replies := q } } : State)) hreplies

/-! ### The moment (R173, R177) -/

section
variable {s : State}

/-- SOFT_RESET, up to what follows it. -/
def State.softResetAtReply (s : State) : State :=
  match s.clp.sending with
  | some m => if s.clp.resetInHand ∧ isResetReply m then s.finishMessage else s
  | none => s

theorem exec_softReset (hreset : s.inReset = false) : exec .softReset s = .next s.softResetAtReply.settle :=
  act_of_not_inReset hreset State.softResetAtReply

theorem exec_softReset_of_other (hreset : s.inReset = false)
    (h : s.clp.resetInHand = false ∨ ∀ tag ws, s.clp.sending ≠ some (.reply ⟨5, tag, .ok, ws⟩)) :
    exec .softReset s = .next s.settle := by
  refine (exec_softReset hreset).trans (congrArg (Host.Outcome.next ∘ State.settle) ?_)
  unfold State.softResetAtReply
  split
  · next m hm =>
    refine if_neg ?_
    rintro ⟨hhand, hreply⟩
    obtain ⟨tag, ws, rfl⟩ := (isResetReply_iff m).mp hreply
    obtain hclear | hother := h
    · exact absurd (hhand.symm.trans hclear) (by decide)
    · exact hother tag ws hm
  · rfl

variable {m : Sending}

theorem State.finishMessage_of_resetReply (hhand : s.clp.resetInHand = true) (hm : s.clp.sending = some m)
    (hreply : isResetReply m = true) : s.finishMessage = (s.sent m).softResetAll :=
  (State.finishMessage_of_sending hm).trans (if_pos ⟨hhand, hreply⟩)

theorem State.settle_softResetAll (s : State) : s.softResetAll.settle = s.softResetAll :=
  (State.settle_of_nil rfl).trans (State.transmit_of_nothing rfl rfl)

theorem exec_messageSent_of_resetReply (hreset : s.inReset = false) (hhand : s.clp.resetInHand = true)
    (hm : s.clp.sending = some m) (hreply : isResetReply m = true) :
    exec .messageSent s = .next (s.sent m).softResetAll := by
  refine (act_of_not_inReset hreset State.finishMessage).trans (congrArg Host.Outcome.next ?_)
  rw [State.finishMessage_of_resetReply hhand hm hreply, State.settle_softResetAll]

theorem exec_softReset_of_resetReply (hreset : s.inReset = false) (hhand : s.clp.resetInHand = true)
    (hm : s.clp.sending = some m) (hreply : isResetReply m = true) :
    exec .softReset s = exec .messageSent s := by
  refine (exec_softReset hreset).trans (Eq.trans ?_ (act_of_not_inReset hreset State.finishMessage).symm)
  refine congrArg (Host.Outcome.next ∘ State.settle) ?_
  unfold State.softResetAtReply
  rw [hm]
  exact if_pos ⟨hhand, hreply⟩

end

/-! ### The blocks -/

theorem Ctu.softReset_eq (c : Ctu) :
    c.softReset = { c with
      timebase := 0, deadlineAt := none
      paceAt := if c.trigger = .paced then some (microseconds c.pacePending) else none
      paceCurrent := if c.trigger = .paced then c.pacePending else c.paceCurrent } := by
  unfold Ctu.softReset
  by_cases hpaced : c.trigger = .paced
  · simp [hpaced, Ctu.paceReload]
  · simp [hpaced]

theorem Tfu.getElem?_softReset {t : Tfu} {i : Nat} {r : ActiveRecord} (h : t.active.toList[i]? = some r) :
    t.softReset.active.toList[i]? = some { r with
      saturations := 0
      acc := if 0 < r.params.low then r.params.low else if r.params.high < 0 then r.params.high else 0 } := by
  rw [Tfu.softReset, mapTable_toList, List.getElem?_mapIdx, h]
  rfl

/-- What the ring port's soft reset leaves in every state. -/
theorem Drp.softReset_eq (d : Drp) (n : Nat) :
    d.softReset n = { Drp.reset with
      settings := d.settings
      state := if d.state = .sending ∧ d.markSent = false then .sending else .bypass
      resetEnding := decide (d.state = .sending ∧ d.markSent = false)
      unsent := if d.state = .sending ∧ d.markSent = false then
        (if d.resetEnding then d.unsent else if n < d.unsent.length then [.abort] else []) else [] } := by
  unfold Drp.softReset
  by_cases h : d.state = .sending ∧ d.markSent = false
  · simp only [h, and_self, decide_true, if_true]
  · simp only [h, decide_false, if_false]
    rfl

theorem Drp.softResetCodes_of_sending {d : Drp} (hstate : d.state = .sending) (hmark : d.markSent = false) (n : Nat) :
    d.softResetCodes n = if d.resetEnding = true then [] else d.unsent.take n := by
  unfold Drp.softResetCodes
  rw [hstate, hmark]
  simp

theorem Drp.softResetCodes_of_other {d : Drp} (h : ¬(d.state = .sending ∧ d.markSent = false)) (n : Nat) :
    d.softResetCodes n =
      if d.state = .listening ∨ d.state = .onRing ∨ d.state = .leaving then d.holding.toList else [] := by
  unfold Drp.softResetCodes
  cases hstate : d.state with
  | sending =>
    have hmark : d.markSent = true := by simpa [hstate] using h
    simp [hmark]
  | _ => simp

/-- Settles O59. -/
theorem softResetTakesEffectAtItsReply : Obligations.SoftResetTakesEffectAtItsReply := by
  unfold Obligations.SoftResetTakesEffectAtItsReply
  refine ⟨fun s tag h => exec_reset_of_ready h tag, fun s hreset h => exec_softReset_of_other hreset h, ?_⟩
  intro s tag hreset hhand hm
  have hsent := exec_messageSent_of_resetReply hreset hhand hm rfl
  refine ⟨_, (exec_softReset_of_resetReply hreset hhand hm rfl).trans hsent, hsent, fun l => ?_, fun x => ?_,
    rfl, rfl, rfl, rfl, rfl, rfl, rfl, Ctu.softReset_eq s.ctu, rfl, rfl, fun i r => Tfu.getElem?_softReset, ?_⟩
  · rw [State.link_softResetAll]
    exact ⟨rfl, rfl, rfl, rfl, rfl, rfl, rfl, rfl, rfl, rfl, rfl⟩
  · cases x <;> rfl
  · let u := s.sent (.reply ⟨5, tag, .ok, []⟩)
    have hdrp : u.softResetAll.drp = _ := s.drp.softReset_eq (Config.codesSent s.drawn)
    have hring : u.softResetAll.ringOut = s.ringOut ++ s.drp.softResetCodes (Config.codesSent s.drawn) := rfl
    refine ⟨rfl, rfl, rfl, rfl, rfl, rfl, rfl, ?_⟩
    rw [hdrp]
    refine ⟨rfl, rfl, rfl, rfl, rfl, rfl, rfl, rfl, rfl, rfl, ?_, rfl, rfl, hreset, rfl, ?_⟩
    · by_cases hsending : s.drp.state = .sending ∧ s.drp.markSent = false
      · rw [if_pos hsending, if_pos hsending, if_pos hsending]
        refine ⟨rfl, decide_eq_true hsending, rfl, ?_⟩
        rw [hring, Drp.softResetCodes_of_sending hsending.1 hsending.2]
        by_cases hending : s.drp.resetEnding = true
        · rw [if_pos hending, if_pos hending, if_pos hending]
          exact ⟨rfl, List.append_nil _⟩
        · rw [if_neg hending, if_neg hending]
          exact ⟨Config.codesSent s.drawn, rfl, if_neg hending⟩
      · rw [if_neg hsending, if_neg hsending]
        refine ⟨rfl, ?_⟩
        rw [hring, Drp.softResetCodes_of_other hsending]
    · intro ws
      rw [List.append_assoc]
      exact congrArg (s.controlOut ++ ·) (packetCodes_eq ws)

end Sys2Proof.Machine
end
